-- ==== Sys2Proof/Word.lean ====
section
/-! DEFINITION. The byte, the 32-bit register word and the audio sample word of the RQ-3296. -/

namespace Sys2Proof

/-- One byte of a record in host memory or of the store image (R6). -/
abbrev Byte := BitVec 8

/-- A register of the link port, read and written as a whole 32-bit word (R160). -/
abbrev Word := BitVec 32

/-- A sample as it stands on an input lane: 24 bits, two's complement (R1). -/
abbrev LaneWord := BitVec 24

/-- One transfer of a record of `n` bytes read over the link: its bytes, or `none` where it failed. -/
abbrev LinkRead (n : Nat) := Option (Vector Byte n)

/-- The 32-byte code of the protection unit (R184). -/
abbrev Code := Vector Byte 32

end Sys2Proof
end

