-- ==== Sys2Proof/Syntax.lean ====
section
/-! DEFINITION. The commands and events of the RQ-3296: one constructor of `Instr` for each row of the table.
Data a transfer brings from host memory, the level of a pin and the outcome of a transfer are the operands. -/

namespace Sys2Proof

/-- A path key (R7). The three constructors are the three kinds of valid key, so an invalid key cannot be written. -/
inductive Key where
  | pickupToEmitter (p : Fin 32) (e : Fin 96)
  | tailToEmitter (t : Fin 16) (e : Fin 96)
  | pickupToTail (p : Fin 32) (t : Fin 16)
deriving DecidableEq, Repr

/-- The raw level of the cue-line contact, and the filtered level once there is one (R152, R153). -/
inductive Level where
  | low
  | high
deriving DecidableEq, Repr

/-- The width of a host access to a register (R160). -/
inductive AccessWidth where
  | byte
  | half
  | word
deriving DecidableEq, Repr

/-- The two kinds of long card (R168). -/
inductive LongKind where
  | store
  | snapshot
deriving DecidableEq, Repr

/-- The commands and events of the block, in the table's order. -/
inductive Instr where
  /-- POWER_ON_RESET (R88). -/
  | powerOnReset
  /-- LINK_RESET (R88). -/
  | linkReset
  /-- ENGINE_RESET: CONTROL written with ENGINE RESET 1 (R88, R161). -/
  | engineReset
  /-- STORE_LOAD_END: the load ends; `answers` says whether the flash answered (R189, R192). -/
  | storeLoadEnd (answers : Bool)
  /-- RUN_START: the RUN field written 1 (R86). -/
  | runStart
  /-- RUN_STOP: the RUN field written 0 (R87). -/
  | runStop
  /-- NOTICE_ENABLE: the field written `on` (R182). -/
  | noticeEnable (on : Bool)
  /-- VECTOR_COUNT: the field written with a code (R182). -/
  | vectorCount (code : BitVec 2)
  /-- SWEEP_NOW: the field written 1 (R165). -/
  | sweepNow
  /-- NOTICE_MASK_WRITE: NOTICE MASK written (R182). -/
  | noticeMaskWrite (value : Word)
  /-- FAULT_CLEAR: FAULT written (R162). -/
  | faultClear (value : Word)
  /-- REGISTER_WRITE: any write in the register window (R160). -/
  | registerWrite (offset : Nat) (width : AccessWidth) (value : Word)
  /-- ROOT_READ_END: the read of the root's first 64 bytes ends (R163). -/
  | rootReadEnd (data : LinkRead 64)
  /-- STOPPING_END (R87). -/
  | stoppingEnd
  /-- CLOCK_LOSS (R91). -/
  | clockLoss
  /-- CLOCK_RETURN (R92). -/
  | clockReturn
  /-- LANE_LOCK (R93). -/
  | laneLock (lane : Fin 4)
  /-- LANE_LOSS (R94). -/
  | laneLoss (lane : Fin 4)
  /-- BLOCK_END (R90). -/
  | blockEnd
  /-- RAMP_END of the entry with a key (R69). -/
  | rampEnd (key : Key)
  /-- ENTRY_REMOVAL of the entry with a key (R16). -/
  | entryRemoval (key : Key)
  /-- DIP_LOW_POINT of the entry with a key (R72). -/
  | dipLowPoint (key : Key)
  /-- DIP_UP_END of the entry with a key (R73). -/
  | dipUpEnd (key : Key)
  /-- FADE_END (R60). -/
  | fadeEnd
  /-- SILENCE_LIMIT of a pickup (R122). -/
  | silenceLimit (pickup : Fin 32)
  /-- RING_HOLD_END of a pickup (R127). -/
  | ringHoldEnd (pickup : Fin 32)
  /-- METER_INTERVAL_EXPIRY (R144). -/
  | meterIntervalExpiry
  /-- METER_PAGE_WRITE_END: the page transfer in flight ends (R147, R148). -/
  | meterPageWriteEnd (ok : Bool)
  /-- HOLDOFF_EXPIRY (R156). -/
  | holdoffExpiry
  /-- CUE_LINE_SAMPLE: a sample instant of the contact (R153). -/
  | cueLineSample (level : Level)
  /-- LINE_GO: the scene stager takes a line GO handed to it (R51). -/
  | lineGo
  /-- SWEEP_TIMER_EXPIRY (R165). -/
  | sweepTimerExpiry
  /-- SLOT_READ: the read of a slot ends (R166). -/
  | slotRead (data : LinkRead 64)
  /-- ITEM_LIST_READ: a transfer of the item list ends; the card's list takes as many of the 256 bytes as the
  transfer was for (R167). -/
  | itemListRead (data : LinkRead 256)
  /-- CARD_WRITE_END: the reader's write to a slot ends (R170). -/
  | cardWriteEnd (ok : Bool)
  /-- SWEEP_END (R169). -/
  | sweepEnd
  /-- STAGE (R47). -/
  | stage
  /-- STANDBY (R49). -/
  | standby
  /-- DROP_STANDBY (R50). -/
  | dropStandby
  /-- GO (R62). -/
  | go
  /-- CEILINGS (R38). -/
  | ceilings
  /-- TAILS (R112). -/
  | tails
  /-- PATCHES (R115). -/
  | patches
  /-- PICKUPS (R131). -/
  | pickups
  /-- MUTES: `failAt` is the item whose prior-value write fails, if one does (R137). -/
  | mutes (failAt : Option Nat)
  /-- SNAPSHOT (R149). -/
  | snapshot
  /-- CUE_LINE (R158). -/
  | cueLine
  /-- SET_CODE (R185). -/
  | setCode
  /-- UNLOCK (R186). -/
  | unlock
  /-- RELOCK (R185). -/
  | relock
  /-- CLEAR_CODE (R186). -/
  | clearCode
  /-- FIX (R187). -/
  | fix
  /-- FUSE_BLOW_END: the blow ends and the fuse reads back blown or not (R187). -/
  | fuseBlowEnd (blown : Bool)
  /-- STORE (R190). -/
  | store
  /-- STORE_ERASE_END (R190). -/
  | storeEraseEnd
  /-- STORE_PROGRAM_END: `faithful` says whether the flash took every byte as programmed (R190, R191). -/
  | storeProgramEnd (faithful : Bool)
  /-- STORE_VERIFY_END: `answers` says whether the flash answered the read back (R190). -/
  | storeVerifyEnd (answers : Bool)
  /-- REPORT (R23). -/
  | report
  /-- REPORT_TRANSFER_END (R24, R25). -/
  | reportTransferEnd (ok : Bool)
  /-- LONG_CARD_COMPLETION: the completion writes of a long card end; `failAt` is the transfer that fails, if one
  does (R168). -/
  | longCardCompletion (which : LongKind) (failAt : Option Nat)
  /-- PROGRESS_WRITE_END (R172). -/
  | progressWriteEnd (ok : Bool)
  /-- NOTICE_WRITE_END (R181). -/
  | noticeWriteEnd (ok : Bool)
  /-- SAMPLE_COMPUTATION: one word-clock period within a block; `lanes` are the words on the 32 input channels, bit L of
  `markers` says that lane L's frame marker stood at its place (R93, R96). -/
  | sampleComputation (lanes : Vector LaneWord 32) (markers : BitVec 4)
deriving DecidableEq, Repr

end Sys2Proof
end

