-- ==== Sys2Proof/Config.lean ====
section
/-! DEFINITION. Config: what the manual leaves to the vendor or does not state, as constants with no body.
Nothing in Lean can evaluate one of these, so a claim about a value they give holds for every value. -/

namespace Sys2Proof

/-- The delay of tap `k` of library design `d`, before it is brought into the design's span (R105: vendor
data; assumption log 3). -/
opaque Config.tapDelay : Nat → Nat → Nat

/-- The gain of tap `k` of library design `d` (R105: vendor data; assumption log 3). -/
opaque Config.tapGain : Nat → Nat → BitVec 16

/-- The tap of design `d` whose delay is the design's span (R105: vendor data; assumption log 3). -/
opaque Config.spanTap : Nat → Nat

/-- Where a byte of a transfer lies whose address, computed without bound, does not fit in 64 bits (R6 gives
64-bit addresses and does not say what lies past the last one; assumption log 5). -/
opaque Config.addressPast : Nat → Nat

/-- The code bytes a STORE card captures for image `n` where the state is FIXED and no code is held (R189, R190 do not
state them; assumption log 11). -/
opaque Config.unheldCode : Nat → Code

/-- The 96 flags a MUTES card returns where its map argument `m` names no map (R138 does not state them; assumption
log 12). -/
opaque Config.flagsOfNoMap : Nat → BitVec 96

/-- Byte `k` of the rest of the WRITING header of the page of sequence number `n` (R147 states the rest of the
header for the READY header only; assumption log 13). -/
opaque Config.writingHeader : Nat → Nat → Byte

/-- What the channel of emitter `e` carries in one of the first two frames after a return of the clock: free value number `n`
(R94 does not state it; assumption log 14). -/
opaque Config.frameAfterReturn : Nat → Nat → LaneWord

/-- Whether a progress record write that is in flight at a reset still reaches host memory, where no notice write handed over
follows it: free value number `n` (R88, R172 do not state it; assumption log 36). -/
opaque Config.progressLandsAtReset : Nat → Bool

end Sys2Proof
end

