-- ==== Sys2Proof/Machine/State.lean ====
section
/-! DEFINITION. The state of the RQ-3296, unit by unit as the manual's block overview lists them (section 3.1), as plain
data, and the state right after power-on reset. Values without a stated reset value are marked in INVENTORY.md. -/

namespace Sys2Proof.Machine

/-! ### Stops -/

/-- No command of this block stops with a fault: an error of the link or of a field sets a FAULT bit or fails a
card, which is a next state. The type has no constructor, so a fault cannot be answered (safe). -/
inductive Fault where
deriving DecidableEq, Repr

/-- Refusals. -/
inductive Refusal where
  /-- Raised by `exec`'s arm for a command without a meaning; no arm is left that raises it (safe). -/
  | notModelled (mnemonic : String)
deriving DecidableEq, Repr

/-! ### Link port (chapter 10) -/

/-- The bits of FAULT (R162). -/
inductive FaultBit where
  | memory | root | clock | lane | store | protectLoad
deriving DecidableEq, Repr

/-- The registers the link port stores. CONTROL and STATUS are views of other units' state; IDENT is fixed (R160). -/
structure Regs where
  exchangeLow : Word
  exchangeHigh : Word
  fault : BitVec 6
deriving DecidableEq, Repr

/-- The values of the root held (R163). -/
structure Root where
  addr : Nat
  cardTable : Nat
  slotCount : Nat
  firstTag : Nat
  sweepInterval : Nat
  meterPage : Nat
  meterInterval : Nat
  noticeAddr : Nat
  noticeBase : Nat
deriving DecidableEq, Repr

/-- A write to host memory: where it starts and its bytes. -/
structure Transfer where
  addr : Nat
  bytes : List Byte
deriving DecidableEq, Repr

/-- The progress record's writer (R172): the record sequence, the write in flight, and whether an occasion came during
it. -/
structure Progress where
  seq : Nat
  inFlight : Option Transfer
  again : Bool
deriving DecidableEq, Repr

/-- What the part's completed writes have left in host memory: pairs of address and byte, addresses rising. An address that
is not listed has not been written by the part, and the part's state does not say what it holds. -/
abbrev HostMem := List Host.Cell

/-! ### Mix engine (chapter 5) -/

/-- R84. -/
inductive EngineState where
  | loading | stopped | starting | running | stopping
deriving DecidableEq, Repr

/-- Engine state, the RUN field, and the address of the root read begun at the latest STARTING (R84, R161, R163). -/
structure Engine where
  state : EngineState
  run : Bool
  startAddr : Nat
deriving DecidableEq, Repr

/-- One value for each emitter channel. -/
abbrev Frame := Vector Int 96

/-- A path as a block uses it: effective gain and delay at the block's start (R21). -/
structure MixEntry where
  key : Key
  delay : Nat
  gain : Int
deriving DecidableEq, Repr

/-- The content of an occupied patch slot (R109). -/
structure Patch where
  design : Fin 40
  tap : Nat
  delay : Nat
  gain : Int
deriving DecidableEq, Repr

/-- The values that stand when a block begins and serve all 48 samples of it (R21, R79, R108). -/
structure BlockStart where
  entries : List MixEntry
  designs : Vector (Option (Fin 40)) 16
  slots : Vector (Option Patch) 8
deriving DecidableEq, Repr

/-- The running measure of one channel in the block in progress: peak and exact sum of squares (R99). -/
structure Measure where
  peak : Nat
  squares : Nat
deriving DecidableEq, Repr

/-- The block in progress: samples taken, block-start values, measures and saturation indicators (R90, R99, R100). -/
structure Block where
  index : Nat
  start : BlockStart
  pickups : Vector Measure 32
  emitters : Vector Measure 96
  emitterSat : Vector Bool 96
  tailSat : Vector Bool 16
deriving DecidableEq, Repr

/-- The mix engine's state apart from the engine state. A history lists its samples newest first, without the zeros after
the last sample that is not 0 (R95). `opening` says that a block end has closed a block and the next one has still
to take its block-start values. -/
structure Mix where
  clock : Bool
  locks : Vector Bool 4
  lockRun : Vector Nat 4
  pickupHist : Vector (List Int) 32
  tailHist : Vector (List Int) 16
  block : Option Block
  opening : Bool
  emitterClip : Vector Bool 96
  tailClip : Vector Bool 16
  clipBlocks : Vector Nat 96
  formed : Frame
  formedBefore : Frame
  lanesOut : Option Frame
deriving DecidableEq, Repr

/-! ### Path engine, budget unit and scene stager (chapters 1 to 4) -/

/-- The state of a path entry with the fields present in it (R9, R10). -/
inductive Motion where
  | settled
  | ramping (step : Int) (remaining : Nat)
  | dipDown (step : Int) (remaining pendingDelay upLength : Nat)
  | dipUp (step : Int) (remaining : Nat)
  | retiring (step : Int) (remaining : Nat)
deriving DecidableEq, Repr

/-- A path entry (R9). -/
structure Entry where
  key : Key
  requested : Int
  target : Int
  current : Int
  delay : Nat
  motion : Motion
  lastCue : Nat
deriving DecidableEq, Repr

/-- What a standby item asks (R44): a RETIRE item has gain 0 and delay 0, which nothing reads. -/
inductive StandbyOp where
  | set (gain : Int) (delay : Nat)
  | retire
deriving DecidableEq, Repr

/-- R44. -/
structure StandbyItem where
  key : Key
  op : StandbyOp
deriving DecidableEq, Repr

/-- R45, R49. -/
inductive Mode where
  | replace | amend
deriving DecidableEq, Repr

/-- R45. -/
structure Header where
  cue : Nat
  fade : Nat
  mode : Mode
deriving DecidableEq, Repr

/-- The standby state with the list and header it holds (R45). -/
inductive Standby where
  | empty
  | building (items : List StandbyItem)
  | ready (items : List StandbyItem) (header : Header)
deriving DecidableEq, Repr

/-- R51. -/
inductive GoSource where
  | none | card | line
deriving DecidableEq, Repr

/-- Result codes (section 10.6). -/
inductive Result where
  | ok | badKind | badField | range | staleTag | busy | notReady | standbyReady | standbyFull | tableFull | destFull
  | isProtected | wrongCode | lockedOut | notLocked | fixed | tailBusy | link
deriving DecidableEq, Repr

/-- R59. -/
structure FadeRecord where
  cue : Nat
  remaining : Nat
  counting : Bool
deriving DecidableEq, Repr

/-- The scene stager's state (R66), and the line GOs handed to it that it has not taken yet (R157). -/
structure Stager where
  standby : Standby
  fade : FadeRecord
  cueCounter : Nat
  lastCue : Nat
  goSource : GoSource
  goResult : Result
  goDest : Nat
  superseded : Nat
  stray : Nat
  lineGos : Nat
deriving DecidableEq, Repr

/-- Ceilings and clamp flags (R27, R35). -/
structure Budget where
  ceilings : Vector Nat 96
  clamped : Vector Bool 96
deriving DecidableEq, Repr

/-! ### Tail bank (chapter 6) -/

/-- Tail records, delay memories (newest sample first, no zeros after the last sample that is not 0) and patch slots
(R104, R106, R109). -/
structure TailBank where
  designs : Vector (Option (Fin 40)) 16
  memory : Vector (List Int) 16
  slots : Vector (Option Patch) 8
deriving DecidableEq, Repr

/-! ### Pickup supervisor (chapter 7) -/

/-- R119. -/
inductive PickupState where
  | disabled | live | ringing | silent
deriving DecidableEq, Repr

/-- R119. -/
structure RingGroup where
  rise : Nat
  ringFloor : Nat
  cut : Nat
  trimFloor : Nat
  hold : Nat
  recovery : Nat
deriving DecidableEq, Repr

/-- A pickup record (R119). Histories list their bits oldest first. -/
structure Pickup where
  state : PickupState
  trim : Nat
  silence : Nat
  presence : List Bool
  rises : List Bool
  previous : Nat
  hold : Nat
  ringCount : Nat
  muteFlag : Bool
  muteGain : Nat
  floor : Nat
  limit : Nat
  ring : RingGroup
deriving DecidableEq, Repr

/-- The pickup records and the emitters' mute flags and mute gains (R119, R135). -/
structure Supervisor where
  pickups : Vector Pickup 32
  emitterFlag : Vector Bool 96
  emitterGain : Vector Nat 96
deriving DecidableEq, Repr

/-! ### Meter unit (chapter 8) -/

/-- An accumulator record (R142); `clips` is held for emitters only and stays 0 in a pickup's record. -/
structure Accum where
  peak : Nat
  energy : Nat
  blocks : Nat
  clips : Nat
deriving DecidableEq, Repr

/-- R145. -/
inductive SnapSource where
  | interval | card
deriving DecidableEq, Repr

/-- What a snapshot takes of one pickup (R145). -/
structure HeldPickup where
  state : PickupState
  trim : Nat
  ringCount : Nat
deriving DecidableEq, Repr

/-- The hold set (R145). -/
structure Hold where
  pickups : Vector Accum 32
  emitters : Vector Accum 96
  records : Vector HeldPickup 32
  emitterClip : Vector Bool 96
  tailClip : Vector Bool 16
  clipBlocks : Vector Nat 96
  skips : Nat
  source : SnapSource
deriving DecidableEq, Repr

/-- A page write in progress: its address, its sequence number and which of its 15 transfers is in flight (R147,
R178). -/
structure PageWrite where
  addr : Nat
  seq : Nat
  turn : Nat
deriving DecidableEq, Repr

/-- The meter unit; the writer is IDLE when `writer` is `none` (R147, R151). -/
structure Meter where
  pickups : Vector Accum 32
  emitters : Vector Accum 96
  interval : Nat
  hold : Option Hold
  writer : Option PageWrite
  pageSeq : Nat
  skips : Nat
deriving DecidableEq, Repr

/-! ### Cue line input (chapter 9) -/

/-- R152. -/
inductive Edge where
  | rising | falling
deriving DecidableEq, Repr

/-- R152; `filtered = none` is the level NONE. -/
structure CueLine where
  enable : Bool
  edge : Edge
  filter : Nat
  holdoff : Nat
  history : List Level
  filtered : Option Level
  counter : Nat
  bounced : Nat
deriving DecidableEq, Repr

/-! ### Notice unit (chapter 11) -/

/-- R179. -/
inductive NoticeKind where
  | card | cue | fade | ring | pickup | clip | meters | fault
deriving DecidableEq, Repr

/-- A raising: its kind, and the writes in flight that its unit had issued before it, which the notice write must not overtake: a
progress record write, and the completions of long cards (R180, R181; assumption log 18). -/
structure Raising where
  kind : NoticeKind
  after : Option Nat
  longs : List LongKind
deriving DecidableEq, Repr

/-- A posted notice write with the address and data that stood when it was posted (R181). -/
structure NoticeWrite where
  addr : Nat
  data : Nat
  raising : Raising
deriving DecidableEq, Repr

/-- The notice unit (R183), with the write it has handed to the link port. -/
structure NoticeUnit where
  enable : Bool
  vectorCode : BitVec 2
  mask : BitVec 8
  pending : Vector (Option Raising) 8
  queue : List NoticeWrite
  handed : Option NoticeWrite
deriving DecidableEq, Repr

/-! ### Protection unit and commissioning store (chapter 12) -/

/-- R184; `isFixed` is the state FIXED, `opened` the state OPEN. -/
inductive ProtState where
  | none | locked | opened | isFixed
deriving DecidableEq, Repr

/-- R184. -/
structure Protect where
  state : ProtState
  code : Option Code
  wrong : Nat
  fuseBlown : Bool
deriving DecidableEq, Repr

/-- The content of a store image (R189). -/
structure Image where
  seq : Nat
  state : ProtState
  code : Code
  ceilings : Vector Nat 96
  slots : Vector (Option Patch) 8
  rings : Vector RingGroup 32
deriving DecidableEq, Repr

/-- The steps of a STORE write after its capture; `clearing` is the erase that follows a verify that does not match (R190,
R191; assumption log 37). -/
inductive StorePhase where
  | erasing | programming | verifying | clearing
deriving DecidableEq, Repr

/-- R190; WRITING holds the capture. -/
inductive StoreState where
  | loading
  | idle
  | writing (phase : StorePhase) (capture : Image)
deriving DecidableEq, Repr

/-- The store state, the image sequence count and the flash area of the image (R189, R190). -/
structure Store where
  state : StoreState
  seq : Nat
  flash : List Byte
deriving DecidableEq, Repr

/-! ### Card reader (chapter 10) -/

/-- R165. -/
inductive ReaderState where
  | off | idle | sweeping | halted
deriving DecidableEq, Repr

/-- The fourteen card kinds (R175). -/
inductive CardKind where
  | stage | standby | dropStandby | go | ceilings | tails | patches | pickups | mutes | snapshot | cueLine
  | protect | store | report
deriving DecidableEq, Repr

/-- Where a card in hand stands in the sequence of R167. -/
inductive Phase where
  /-- the write of TAKEN is in flight -/
  | taking
  /-- the item list is being read: the bytes read, and the bytes left -/
  | listing (got : List Byte) (left : Nat)
  /-- the owning unit is to act; the bytes of the item list -/
  | acting (items : List Byte)
  /-- the fuse is being blown (R187) -/
  | blowing
  /-- report entries are being written: those left, the number written, and the copy's counts (R23, R24) -/
  | reporting (rest : List Entry) (written w total cueCounter : Nat)
  /-- the completion's writes: those left, the first of them in flight -/
  | completing (left : List Transfer)
deriving DecidableEq, Repr

/-- The card in hand: its slot and the fields read from it (R175). -/
structure Hand where
  slot : Nat
  addr : Nat
  kind : Option CardKind
  count : Nat
  notify : Bool
  listAddr : Nat
  args : Vector Byte 40
  stale : Bool
  phase : Phase
deriving DecidableEq, Repr

/-- What a card's completion writes (R167): result, remaining, detail, and the return fields by offset. -/
structure Completion where
  result : Result
  remaining : Nat
  detail : Nat
  returns : List (Nat × List Byte)
deriving DecidableEq, Repr

/-- A long card in the reader's list: slot address, notify flag, and its completion once its action has ended (R168). -/
structure LongCard where
  addr : Nat
  notify : Bool
  outcome : Option Completion
deriving DecidableEq, Repr

/-- The card reader. The slot being read in a sweep is the scan position moved on by `streak`, the slots read in a row without
a take. The long-card list has room for one STORE and one SNAPSHOT card (R168, R171). -/
structure Reader where
  state : ReaderState
  nextTag : Nat
  scanPos : Nat
  streak : Nat
  again : Bool
  finished : Bool
  cardsFinished : Nat
  hand : Option Hand
  storeCard : Option LongCard
  snapCard : Option LongCard
deriving DecidableEq, Repr

/-! ### Events a block end has made due -/

/-- The ends that come at a block end and are steps of their own in the table. BLOCK_END makes them due; each is taken by
its own command, or before any other command acts. -/
inductive Due where
  | ramp (key : Key)
  | removal (key : Key)
  | dipLow (key : Key)
  | dipUp (key : Key)
  | fade
  | silence (p : Fin 32)
  | ringHold (p : Fin 32)
  | meter
  | holdoff
deriving DecidableEq, Repr

/-- The whole state. `freeIndex` (the model's own) counts the free values used; `pending` (the model's own) is the queue of
commands that wait. -/
structure State where
  hostMem : HostMem
  regs : Regs
  root : Option Root
  progress : Progress
  engine : Engine
  reader : Reader
  stager : Stager
  table : List Entry
  budget : Budget
  mix : Mix
  tails : TailBank
  sup : Supervisor
  meter : Meter
  cue : CueLine
  notice : NoticeUnit
  prot : Protect
  store : Store
  due : List Due
  freeIndex : Nat
  pending : List Instr
deriving DecidableEq, Repr

/-! ### Reset values -/

/-- The factory ring group (R119, R192). -/
def RingGroup.factory : RingGroup :=
  { rise := 384, ringFloor := 4096, cut := 128, trimFloor := 32, hold := 500, recovery := 1 }

/-- A pickup record after reset, around the ring group it holds (R119). -/
def Pickup.afterReset (ring : RingGroup) : Pickup :=
  { state := .disabled, trim := 256, silence := 0, presence := [], rises := [], previous := 0, hold := 0,
    ringCount := 0, muteFlag := false, muteGain := 0, floor := 64, limit := 10000, ring := ring }

/-- R88, R93, R95, R100. -/
def Mix.afterReset : Mix :=
  { clock := false, locks := Vector.replicate 4 false, lockRun := Vector.replicate 4 0,
    pickupHist := Vector.replicate 32 [], tailHist := Vector.replicate 16 [], block := none, opening := false,
    emitterClip := Vector.replicate 96 false, tailClip := Vector.replicate 16 false,
    clipBlocks := Vector.replicate 96 0, formed := Vector.replicate 96 0, formedBefore := Vector.replicate 96 0,
    lanesOut := some (Vector.replicate 96 0) }

/-- R58, R65, R66. -/
def Stager.afterReset : Stager :=
  { standby := .empty, fade := { cue := 0, remaining := 0, counting := false }, cueCounter := 0, lastCue := 0,
    goSource := .none, goResult := .ok, goDest := 0, superseded := 0, stray := 0, lineGos := 0 }

/-- R142. -/
def Accum.zero : Accum := { peak := 0, energy := 0, blocks := 0, clips := 0 }

/-- R151. -/
def Meter.afterReset : Meter :=
  { pickups := Vector.replicate 32 .zero, emitters := Vector.replicate 96 .zero, interval := 0, hold := none,
    writer := none, pageSeq := 0, skips := 0 }

/-- R152. -/
def CueLine.afterReset : CueLine :=
  { enable := false, edge := .rising, filter := 0, holdoff := 0, history := [], filtered := none, counter := 0,
    bounced := 0 }

/-- R183. -/
def NoticeUnit.afterReset : NoticeUnit :=
  { enable := false, vectorCode := 0, mask := 0, pending := Vector.replicate 8 none, queue := [], handed := none }

/-- R171. -/
def Reader.afterReset : Reader :=
  { state := .off, nextTag := 0, scanPos := 0, streak := 0, again := false, finished := false, cardsFinished := 0,
    hand := none, storeCard := none, snapCard := none }

/-- R172. -/
def Progress.afterReset : Progress := { seq := 0, inFlight := none, again := false }

/-- The erased flash area of the image: 681 bytes of 0xFF (assumption log 10). -/
def erasedFlash : List Byte := List.replicate 681 255

/-- The machine right after its first power-on reset: LOADING, with the load still to end. Ceilings, patch slots, ring groups
and the protection state are installed by that load; what they hold before it is named in assumption log 2. -/
def State.reset : State :=
  { hostMem := []
    regs := { exchangeLow := 0, exchangeHigh := 0, fault := 0 }
    root := none
    progress := .afterReset
    engine := { state := .loading, run := false, startAddr := 0 }
    reader := .afterReset
    stager := .afterReset
    table := []
    budget := { ceilings := Vector.replicate 96 0, clamped := Vector.replicate 96 false }
    mix := .afterReset
    tails := { designs := Vector.replicate 16 none, memory := Vector.replicate 16 [], slots := Vector.replicate 8 none }
    sup := { pickups := Vector.replicate 32 (.afterReset .factory), emitterFlag := Vector.replicate 96 false,
             emitterGain := Vector.replicate 96 0 }
    meter := .afterReset
    cue := .afterReset
    notice := .afterReset
    prot := { state := .none, code := none, wrong := 0, fuseBlown := false }
    store := { state := .loading, seq := 0, flash := erasedFlash }
    due := []
    freeIndex := 0
    pending := [] }

/-! ### Updates, one for each unit -/

/-- The state with its `hostMem` replaced. -/
def State.setHostMem (s : State) (x : HostMem) : State := { s with hostMem := x }

/-- The state with its `regs` replaced. -/
def State.setRegs (s : State) (x : Regs) : State := { s with regs := x }

/-- The state with its `root` replaced. -/
def State.setRoot (s : State) (x : Option Root) : State := { s with root := x }

/-- The state with its `progress` replaced. -/
def State.setProgress (s : State) (x : Progress) : State := { s with progress := x }

/-- The state with its `engine` replaced. -/
def State.setEngine (s : State) (x : Engine) : State := { s with engine := x }

/-- The state with its `reader` replaced. -/
def State.setReader (s : State) (x : Reader) : State := { s with reader := x }

/-- The state with its `stager` replaced. -/
def State.setStager (s : State) (x : Stager) : State := { s with stager := x }

/-- The state with its `table` replaced. -/
def State.setTable (s : State) (x : List Entry) : State := { s with table := x }

/-- The state with its `budget` replaced. -/
def State.setBudget (s : State) (x : Budget) : State := { s with budget := x }

/-- The state with its `mix` replaced. -/
def State.setMix (s : State) (x : Mix) : State := { s with mix := x }

/-- The state with its `tails` replaced. -/
def State.setTails (s : State) (x : TailBank) : State := { s with tails := x }

/-- The state with its `sup` replaced. -/
def State.setSup (s : State) (x : Supervisor) : State := { s with sup := x }

/-- The state with its `meter` replaced. -/
def State.setMeter (s : State) (x : Meter) : State := { s with meter := x }

/-- The state with its `cue` replaced. -/
def State.setCue (s : State) (x : CueLine) : State := { s with cue := x }

/-- The state with its `notice` replaced. -/
def State.setNotice (s : State) (x : NoticeUnit) : State := { s with notice := x }

/-- The state with its `prot` replaced. -/
def State.setProt (s : State) (x : Protect) : State := { s with prot := x }

/-- The state with its `store` replaced. -/
def State.setStore (s : State) (x : Store) : State := { s with store := x }

/-- The state with its `due` replaced. -/
def State.setDue (s : State) (x : List Due) : State := { s with due := x }

/-- The state with its `freeIndex` replaced. -/
def State.setFreeIndex (s : State) (x : Nat) : State := { s with freeIndex := x }

end Sys2Proof.Machine
end

