-- ==== Sys2Proof/Machine/Formats.lean ====
section
/-! DEFINITION. Byte order, flag sets, codes and the record layouts of section 10.8 as the part writes them; the store
image's bytes and CRC (R189). -/

namespace Sys2Proof.Machine

/-! ### Numbers as bytes (R6, R173) -/

/-- `n` little-endian bytes of `v`; bits above them are dropped. -/
def leBytes : Nat → Nat → List Byte
  | 0, _ => []
  | n + 1, v => BitVec.ofNat 8 v :: leBytes n (v / 256)

/-- A signed value in `n` little-endian bytes, two's complement. -/
def leSigned (n : Nat) (v : Int) : List Byte := leBytes n (v % (2 ^ (8 * n) : Nat)).toNat

/-- The number that little-endian bytes stand for. -/
def leNat : List Byte → Nat
  | [] => 0
  | b :: bs => b.toNat + 256 * leNat bs

/-- The number in `n` bytes from offset `off` of a record. -/
def field (bs : List Byte) (off n : Nat) : Nat := leNat ((bs.drop off).take n)

/-- The signed 16-bit number in two bytes from offset `off` of a record. -/
def field16s (bs : List Byte) (off : Nat) : Int := (BitVec.ofNat 16 (field bs off 2)).toInt

/-- A list of flags as a number, the flag of index j in bit j (R173). -/
def flagsNat : List Bool → Nat
  | [] => 0
  | b :: bs => b.toNat + 2 * flagsNat bs

/-- A flag set in `n` bytes (R173). -/
def flagBytes (n : Nat) (fs : List Bool) : List Byte := leBytes n (flagsNat fs)

/-- `n` bytes written as zero. -/
def zeros (n : Nat) : List Byte := List.replicate n 0

/-! ### Codes -/

/-- R84. -/
def EngineState.code : EngineState → Nat
  | .loading => 0 | .stopped => 1 | .starting => 2 | .running => 3 | .stopping => 4

/-- R161. -/
def ReaderState.code : ReaderState → Nat
  | .off => 0 | .idle => 1 | .sweeping => 2 | .halted => 3

/-- R161. -/
def StoreState.code : StoreState → Nat
  | .idle => 0 | .loading => 1 | .writing _ _ => 2

/-- R184. -/
def ProtState.code : ProtState → Nat
  | .none => 0 | .locked => 1 | .opened => 2 | .isFixed => 3

/-- R45. -/
def Standby.code : Standby → Nat
  | .empty => 0 | .building _ => 1 | .ready _ _ => 2

/-- R51. -/
def GoSource.code : GoSource → Nat
  | .none => 0 | .card => 1 | .line => 2

/-- Section 10.6. -/
def Result.code : Result → Nat
  | .ok => 0 | .badKind => 1 | .badField => 2 | .range => 3 | .staleTag => 4 | .busy => 5 | .notReady => 6
  | .standbyReady => 7 | .standbyFull => 8 | .tableFull => 9 | .destFull => 10 | .isProtected => 11 | .wrongCode => 12
  | .lockedOut => 13 | .notLocked => 14 | .fixed => 15 | .tailBusy => 16 | .link => 17

/-- The final state of a card: DONE for OK, FAILED for every other result (R164). -/
def Result.cardState (r : Result) : Nat := if r = .ok then 3 else 4

/-- R119. -/
def PickupState.code : PickupState → Nat
  | .disabled => 0 | .live => 1 | .ringing => 2 | .silent => 3

/-- R24. -/
def Motion.code : Motion → Nat
  | .settled => 0 | .ramping _ _ => 1 | .dipDown _ _ _ _ => 2 | .dipUp _ _ => 3 | .retiring _ _ => 4

/-- The remaining count of the present ramp or phase, 0 for a SETTLED entry (R24). -/
def Motion.remaining : Motion → Nat
  | .settled => 0 | .ramping _ r => r | .dipDown _ r _ _ => r | .dipUp _ r => r | .retiring _ r => r

/-- The filtered level as published: 0 LOW, 1 HIGH, 2 NONE (R152). -/
def levelCode : Option Level → Nat
  | some .low => 0 | some .high => 1 | none => 2

/-- R158. -/
def Edge.code : Edge → Nat
  | .rising => 0 | .falling => 1

/-- A tail's design as returned: its number, or 255 for none (R113). -/
def designCode : Option (Fin 40) → Nat
  | some d => d.val | none => 255

end Sys2Proof.Machine

/-! ### Path keys (R7, R8) -/

namespace Sys2Proof

/-- R7. -/
def Key.sourceCode : Key → Nat
  | .pickupToEmitter p _ => p.val
  | .tailToEmitter t _ => 128 + t.val
  | .pickupToTail p _ => p.val

/-- R7. -/
def Key.destCode : Key → Nat
  | .pickupToEmitter _ e => e.val
  | .tailToEmitter _ e => e.val
  | .pickupToTail _ t => 128 + t.val

/-- Key order is the ascending order of this number: destination code first, then source code (R8). -/
def Key.rank (k : Key) : Nat := 256 * k.destCode + k.sourceCode

/-- The key a pair of codes names, `none` for an invalid pair (R7). -/
def Key.ofCodes (s d : Nat) : Option Key :=
  if hs : s < 32 then
    if hd : d < 96 then some (.pickupToEmitter ⟨s, hs⟩ ⟨d, hd⟩)
    else if ht : 128 ≤ d ∧ d < 144 then some (.pickupToTail ⟨s, hs⟩ ⟨d - 128, by omega⟩)
    else none
  else if hs : 128 ≤ s ∧ s < 144 then
    if hd : d < 96 then some (.tailToEmitter ⟨s - 128, by omega⟩ ⟨d, hd⟩) else none
  else none

end Sys2Proof

namespace Sys2Proof.Machine

/-! ### Records the part writes -/

/-- A report entry (R24, R177). -/
def reportEntryBytes (e : Entry) : List Byte :=
  leBytes 1 e.key.sourceCode ++ leBytes 1 e.key.destCode ++ leBytes 1 e.motion.code ++ zeros 1
    ++ leSigned 2 e.requested ++ leSigned 2 e.target ++ leSigned 2 e.current
    ++ leBytes 2 e.delay ++ leBytes 2 e.motion.remaining ++ leBytes 2 e.lastCue

/-- A pickup record of the meter page (R147, R178). -/
def pickupRecordBytes (a : Accum) (p : HeldPickup) : List Byte :=
  leBytes 4 a.peak ++ leBytes 8 a.energy ++ leBytes 2 a.blocks ++ leBytes 1 p.state.code ++ zeros 1
    ++ leBytes 2 p.trim ++ leBytes 2 p.ringCount ++ zeros 4

/-- An emitter record of the meter page (R147, R178). -/
def emitterRecordBytes (a : Accum) (clip : Bool) (clipBlocks : Nat) : List Byte :=
  leBytes 4 a.peak ++ leBytes 8 a.energy ++ leBytes 2 a.blocks ++ leBytes 1 clip.toNat ++ zeros 1
    ++ leBytes 2 a.clips ++ leBytes 2 clipBlocks ++ zeros 4

/-- The 128 records of a page, in order (R147). -/
def pageRecords (h : Hold) : List (List Byte) :=
  List.zipWith pickupRecordBytes h.pickups.toList h.records.toList
    ++ List.zipWith (fun a (c : Bool × Nat) => emitterRecordBytes a c.1 c.2) h.emitters.toList
        (h.emitterClip.toList.zip h.clipBlocks.toList)

/-- R145. -/
def SnapSource.code : SnapSource → Nat
  | .interval => 0 | .card => 1

/-- The READY header (R147, R178). -/
def readyHeader (h : Hold) (seq : Nat) : List Byte :=
  leBytes 1 1 ++ leBytes 1 h.source.code ++ zeros 2 ++ leBytes 4 seq ++ leBytes 4 h.skips
    ++ flagBytes 12 h.emitterClip.toList ++ flagBytes 2 h.tailClip.toList ++ zeros 38

/-- The WRITING header: state and sequence number, and bytes written as zero; the bytes of source, skip count and clip flags
are free values (R147, R178; assumption log 13). -/
def writingHeader (seq : Nat) : List Byte :=
  leBytes 1 0 ++ [Config.writingHeader seq 1] ++ zeros 2 ++ leBytes 4 seq
    ++ (List.range 18).map (fun i => Config.writingHeader seq (8 + i)) ++ zeros 38

/-- Transfer `i` of a page, 0 to 14, at the page's address: header, 13 transfers of records, header (R147, R178). -/
def pageTransfer (h : Hold) (w : PageWrite) : Transfer :=
  if w.turn = 0 then { addr := w.addr, bytes := writingHeader w.seq }
  else if w.turn < 14 then
    { addr := w.addr + 64 + 240 * (w.turn - 1)
      bytes := (((pageRecords h).drop (10 * (w.turn - 1))).take 10).flatten }
  else { addr := w.addr, bytes := readyHeader h w.seq }

/-! ### Store image (R189) -/

/-- One bit of the CRC, reflected polynomial. -/
def crcBit (c : Nat) : Nat := if c % 2 = 1 then (c >>> 1) ^^^ 0xEDB88320 else c >>> 1

/-- One byte of the CRC, least significant bit first. -/
def crcByte (c : Nat) (b : Byte) : Nat := Nat.iterate crcBit 8 (c ^^^ b.toNat)

/-- The CRC of R189. -/
def crc32 (bs : List Byte) : Nat := bs.foldl crcByte 0xFFFFFFFF ^^^ 0xFFFFFFFF

/-- A patch slot in the image; the bytes of an empty slot are not looked at and are written as zero (R189; assumption
log 10). -/
def patchBytes : Option Patch → List Byte
  | none => zeros 8
  | some p => leBytes 1 1 ++ leBytes 1 p.design.val ++ leBytes 1 p.tap ++ zeros 1 ++ leBytes 2 p.delay ++ leSigned 2 p.gain

/-- R189. -/
def ringGroupBytes (r : RingGroup) : List Byte :=
  leBytes 2 r.rise ++ leBytes 4 r.ringFloor ++ leBytes 1 r.cut ++ leBytes 1 r.recovery ++ leBytes 2 r.trimFloor
    ++ leBytes 2 r.hold

/-- Bytes 0 to 676 of an image (R189). -/
def imageBody (i : Image) : List Byte :=
  leBytes 4 i.seq ++ leBytes 1 i.state.code ++ i.code.toList
    ++ (i.ceilings.toList.map (leBytes 2)).flatten ++ (i.slots.toList.map patchBytes).flatten
    ++ (i.rings.toList.map ringGroupBytes).flatten

/-- The 681 bytes of an image (R189). -/
def imageBytes (i : Image) : List Byte := imageBody i ++ leBytes 4 (crc32 (imageBody i))

end Sys2Proof.Machine
end

