-- ==== Sys2Proof/Machine/Notices.lean ====
section
/-! DEFINITION. The notice unit's operations: kinds and vectors, raising, posting, and the host's writes (chapter 11).
Each changes the notice unit and nothing else. -/

namespace Sys2Proof.Machine

/-- Kind numbers (R179). -/
def NoticeKind.num : NoticeKind → Nat
  | .card => 0 | .cue => 1 | .fade => 2 | .ring => 3 | .pickup => 4 | .clip => 5 | .meters => 6 | .fault => 7

/-- The number of vectors of a VECTOR COUNT code (R179). -/
def vectorCount (code : BitVec 2) : Nat := 2 ^ code.toNat

/-- Kind k is delivered on vector min(k, n − 1) (R179). -/
def vectorOf (code : BitVec 2) (k : NoticeKind) : Fin 8 :=
  ⟨min k.num (vectorCount code - 1), by cases k <;> simp [NoticeKind.num]⟩

/-- The queue holds at most 16 posted writes (R181). -/
def NoticeUnit.hasRoom (u : NoticeUnit) : Bool := decide (u.queue.length < 16)

/-- The queue's first write goes to the link port once the write before it has been handed on (R181). -/
def NoticeUnit.handOn (u : NoticeUnit) : NoticeUnit :=
  match u.handed, u.queue with
  | none, w :: ws => { u with handed := some w, queue := ws }
  | _, _ => u

/-- Post the notice write of vector `v`, or make `v` pending where the queue is full (R181). -/
def NoticeUnit.post (r : Root) (v : Fin 8) (x : Raising) (u : NoticeUnit) : NoticeUnit :=
  if u.hasRoom then
    NoticeUnit.handOn { u with queue := u.queue ++ [{ addr := r.noticeAddr, data := r.noticeBase + v.val, raising := x }] }
  else { u with pending := u.pending.set v (some x) }

/-- R180, R181: a raising with the root held. -/
def NoticeUnit.raise (root : Option Root) (x : Raising) (u : NoticeUnit) : NoticeUnit :=
  let v := vectorOf u.vectorCode x.kind
  if u.enable = false then u
  else if u.pending[v].isSome then u
  else
    match root with
    | none => { u with pending := u.pending.set v (some x) }
    | some r => if u.mask.getLsbD v then { u with pending := u.pending.set v (some x) } else u.post r v x

/-- A pending vector whose mask bit is clear is posted if the queue has room, and leaves the pending set (R181). -/
def NoticeUnit.postPending (r : Root) (u : NoticeUnit) (v : Fin 8) : NoticeUnit :=
  match u.pending[v] with
  | none => u
  | some x =>
    if u.mask.getLsbD v || !u.hasRoom then u
    else NoticeUnit.post r v x { u with pending := u.pending.set v none }

/-- Every pending vector that may go out is posted, in ascending vector order (R180, R181, R182). -/
def NoticeUnit.flush (root : Option Root) (u : NoticeUnit) : NoticeUnit :=
  match root with
  | none => u
  | some r => if u.enable then [0, 1, 2, 3, 4, 5, 6, 7].foldl (NoticeUnit.postPending r) u else u

/-- A write of NOTICE MASK: bits 7:0 are the mask (R160), and unmasked pending vectors go out (R182). -/
def NoticeUnit.writeMask (root : Option Root) (w : Word) (u : NoticeUnit) : NoticeUnit :=
  NoticeUnit.flush root { u with mask := w.setWidth 8 }

/-- A write of the NOTICE ENABLE field (R182): disabling clears every pending vector. -/
def NoticeUnit.writeEnable (on : Bool) (u : NoticeUnit) : NoticeUnit :=
  if on then { u with enable := true } else { u with enable := false, pending := Vector.replicate 8 none }

/-- The completion of a long card has ended: the raising follows it no longer (R181). -/
def Raising.longDone (k : LongKind) (x : Raising) : Raising := { x with longs := x.longs.filter (· ≠ k) }

/-- The completion of a long card has ended: no notice, pending, queued or handed over, follows it any longer (R181). -/
def NoticeUnit.longDone (k : LongKind) (u : NoticeUnit) : NoticeUnit :=
  let freed : NoticeWrite → NoticeWrite := fun w => { w with raising := w.raising.longDone k }
  { u with pending := u.pending.map (Option.map (Raising.longDone k)), queue := u.queue.map freed, handed := u.handed.map freed }

/-- The link port has ended the write handed to it. -/
def NoticeUnit.ended (u : NoticeUnit) : NoticeUnit := { u with handed := none }

/-- The queue goes on: it hands its next write to the link port and posts pending vectors into the freed room (R181). -/
def NoticeUnit.goOn (root : Option Root) (u : NoticeUnit) : NoticeUnit := NoticeUnit.flush root u.handOn

end Sys2Proof.Machine
end

