-- ==== Sys2Proof/Machine/Flags.lean ====
section
/-! DEFINITION. Raising a kind over the whole state, the sticky bits of FAULT, saturation, and the flags that other units test:
full key sets, the sounding test and the clip and clamp flags' counts (R110, R162, R179, R180). -/

namespace Sys2Proof.Machine

/-! ### Long cards (R168) -/

/-- The long card of a kind. -/
def Reader.longCard (r : Reader) : LongKind → Option LongCard
  | .store => r.storeCard
  | .snapshot => r.snapCard

/-- The long card of a kind is replaced. -/
def Reader.setLong (r : Reader) (k : LongKind) (c : Option LongCard) : Reader :=
  match k with
  | .store => { r with storeCard := c }
  | .snapshot => { r with snapCard := c }

/-- The completion of the long card of a kind is in flight: its action has ended (R168). -/
def Reader.completes (r : Reader) (k : LongKind) : Bool := ((r.longCard k).bind LongCard.outcome).isSome

/-! ### Raising and FAULT -/

/-- The units that raise kinds (R179). -/
inductive Raiser where
  | reader | stager | linkPort | supervisor | mix | meter | store | notice
deriving DecidableEq, Repr

/-- The units that publish the progress record, whose notices must wait for a progress write they have in flight (section 3.4,
R181). The notice unit, which raises the FAULT of a failed notice write, is none of them: assumption log 49. -/
def Raiser.publishes : Raiser → Bool
  | .reader | .stager | .linkPort => true
  | .supervisor | .mix | .meter | .store | .notice => false

/-- The progress write that a notice of `by_` must not overtake (R181): the one in flight. DESIGN CHOICE, unsafe: a further write
that an occasion has only noted (R172) is not yet issued, so a notice raised before it begins may come before it: assumption log
47. -/
def orderedAfter (by_ : Raiser) (p : Progress) : Option Nat :=
  if by_.publishes && p.inFlight.isSome then some p.seq else none

/-- The completions of long cards that a notice of `by_` must not overtake: the link port writes them (R168, R181). -/
def longsBefore (by_ : Raiser) (r : Reader) : List LongKind :=
  if by_ = .linkPort then [.store, .snapshot].filter r.completes else []

/-- The raising of a kind, with the writes in flight that its unit has issued before it (R181; assumption log 18). -/
def raisingOf (by_ : Raiser) (k : NoticeKind) (s : State) : Raising :=
  { kind := k, after := orderedAfter by_ s.progress, longs := longsBefore by_ s.reader }

/-- A unit raises a kind (R180). -/
def raise (by_ : Raiser) (k : NoticeKind) (s : State) : State := s.setNotice (s.notice.raise s.root (raisingOf by_ k s))

/-- R162. -/
def FaultBit.num : FaultBit → Nat
  | .memory => 0 | .root => 1 | .clock => 2 | .lane => 3 | .store => 4 | .protectLoad => 5

/-- The bit of FAULT is set. -/
def State.hasFault (s : State) (b : FaultBit) : Bool := s.regs.fault.getLsbD b.num

/-- FAULT with one bit set. -/
def Regs.withFault (r : Regs) (b : FaultBit) : Regs := { r with fault := r.fault ||| (1#6 <<< b.num) }

/-- An event sets a bit of FAULT without raising. -/
def markFault (b : FaultBit) (s : State) : State := s.setRegs (s.regs.withFault b)

/-- An event sets a bit of FAULT; a bit that changes from clear to set raises FAULT (R162). -/
def setFault (by_ : Raiser) (b : FaultBit) (s : State) : State :=
  if s.hasFault b then s else raise by_ .fault (markFault b s)

/-- A host write of FAULT: each bit written 1 is cleared (R162). -/
def Regs.clearFault (r : Regs) (w : Word) : Regs := { r with fault := r.fault &&& ~~~(w.setWidth 6) }

/-! ### Samples and saturation (R1) -/

/-- The largest sample. -/
def maxSample : Int := 8388607

/-- The smallest sample. -/
def minSample : Int := -8388608

/-- R1: saturate. -/
def saturate (x : Int) : Int := if x < minSample then minSample else if maxSample < x then maxSample else x

/-- The value lies outside the sample range, so that saturating it raises an indicator (R96, R97, R107). -/
def saturates (x : Int) : Bool := decide (x < minSample ∨ maxSample < x)

/-- The output of an exact sum of products before saturation: floor((acc + 8192) / 16384) (R96, R97, R107). -/
def roundSum (acc : Int) : Int := Int.fdiv (acc + 8192) 16384

/-! ### Counts that saturate or wrap -/

/-- A count that stays at `top` once there. -/
def countTo (top n : Nat) : Nat := min top (n + 1)

/-- A 32-bit count that wraps to 0. -/
def wrap32 (n : Nat) : Nat := (n + 1) % 4294967296

/-- A 16-bit count that wraps to 0. -/
def wrap16 (n : Nat) : Nat := (n + 1) % 65536

/-- A detail that counts clamped values saturates at 255 (section 10.6). -/
def detailCount (n : Nat) : Nat := min 255 n

/-- The number of flags set. -/
def flagCount (fs : List Bool) : Nat := fs.count true

/-! ### Tests of the path table -/

/-- The tail an entry has as its source. -/
def sourceTail : Key → Option (Fin 16)
  | .tailToEmitter t _ => some t
  | .pickupToEmitter _ _ | .pickupToTail _ _ => none

/-- The emitter an entry has as its destination. -/
def destEmitter : Key → Option (Fin 96)
  | .pickupToEmitter _ e => some e
  | .tailToEmitter _ e => some e
  | .pickupToTail _ _ => none

/-- The tail an entry has as its destination. -/
def destTail : Key → Option (Fin 16)
  | .pickupToTail _ t => some t
  | .pickupToEmitter _ _ | .tailToEmitter _ _ => none

/-- An entry makes its source tail sound: its current gain is not 0, or it is RAMPING or DIPPING (R110). -/
def Entry.sounds (e : Entry) : Bool :=
  match e.motion with
  | .ramping _ _ | .dipDown _ _ _ _ | .dipUp _ _ => true
  | .settled | .retiring _ _ => decide (e.current ≠ 0)

/-- R110. -/
def sounding (table : List Entry) (t : Fin 16) : Bool :=
  table.any fun e => decide (sourceTail e.key = some t) && e.sounds

/-- The sounding set of the 16 tails (R113). -/
def soundingSet (table : List Entry) : List Bool := (List.finRange 16).map (sounding table)

/-- A design is in use by a sounding tail (R110). -/
def designSounds (table : List Entry) (designs : Vector (Option (Fin 40)) 16) (d : Fin 40) : Bool :=
  (List.finRange 16).any fun t => decide (designs[t] = some d) && sounding table t

end Sys2Proof.Machine
end

