-- ==== Sys2Proof/Machine/Operands.lean ====
section
/-! DEFINITION. The operand forms: the root record, the card slot, the item records and the store image as the part reads
them (R163, R174 to R177, R189). -/

namespace Sys2Proof.Machine

/-! ### Root record -/

/-- The values of a root record read from `addr` (R174). -/
def Root.ofBytes (addr : Nat) (b : List Byte) : Root :=
  { addr := addr
    cardTable := field b 8 8
    slotCount := field b 4 2
    firstTag := field b 6 2
    sweepInterval := field b 32 2
    meterPage := field b 16 8
    meterInterval := field b 34 2
    noticeAddr := field b 24 8
    noticeBase := field b 36 2 }

/-- The signature is the four bytes "RQX1", 'R' first (R163, R174). -/
def rootSignature (b : List Byte) : Bool := b.take 4 == [0x52#8, 0x51#8, 0x58#8, 0x31#8]

/-- None of R163's conditions for an invalid root holds. -/
def Root.valid (r : Root) : Bool :=
  decide (1 ≤ r.slotCount ∧ r.slotCount ≤ 256) && decide (1 ≤ r.sweepInterval ∧ r.sweepInterval ≤ 10000)
    && decide (r.meterInterval ≤ 60000) && decide (r.cardTable % 64 = 0) && decide (r.meterPage % 64 = 0)
    && decide (r.noticeAddr % 4 = 0)

/-- The root a read brought: `none` where the read failed or the root is invalid (R163). -/
def Root.ofRead (addr : Nat) (data : LinkRead 64) : Option Root :=
  match data with
  | none => none
  | some v =>
    let r := Root.ofBytes addr v.toList
    if rootSignature v.toList && r.valid then some r else none

/-! ### Card slot -/

/-- R175: the kind of a kind code, `none` for a code not listed. -/
def CardKind.ofCode : Nat → Option CardKind
  | 1 => some .stage | 2 => some .standby | 3 => some .dropStandby | 4 => some .go | 5 => some .ceilings
  | 6 => some .tails | 7 => some .patches | 8 => some .pickups | 9 => some .mutes | 10 => some .snapshot
  | 11 => some .cueLine | 12 => some .protect | 13 => some .store | 14 => some .report | _ => none

/-- The size of an item of a kind with items, `none` for the other kinds (R167, R177). -/
def CardKind.itemSize : CardKind → Option Nat
  | .stage => some 8 | .ceilings => some 4 | .tails => some 2 | .patches => some 8 | .pickups => some 24
  | .mutes => some 2
  | .standby | .dropStandby | .go | .snapshot | .cueLine | .protect | .store | .report => none

/-- A count byte, 0 meaning 256 (R175). -/
def countOf (n : Nat) : Nat := if n = 0 then 256 else n

/-- The slot's state byte reads ISSUED (R164). -/
def slotIssued (b : List Byte) : Bool := field b 0 1 == 1

/-- The tag of a slot (R175). -/
def slotTag (b : List Byte) : Nat := field b 2 2

/-- The card in hand that a slot's 64 bytes give, in its first phase (R175). -/
def Hand.ofBytes (slot addr : Nat) (v : Vector Byte 64) (stale : Bool) (phase : Phase) : Hand :=
  let b := v.toList
  { slot := slot
    addr := addr
    kind := CardKind.ofCode (field b 1 1)
    count := countOf (field b 4 1)
    notify := decide (field b 5 1 % 2 = 1)
    listAddr := field b 16 8
    args := Vector.ofFn fun i : Fin 40 => v[24 + i.val]
    stale := stale
    phase := phase }

/-- An input argument of a card, by its offset in the slot (R176). -/
def Hand.arg (h : Hand) (off n : Nat) : Nat := field h.args.toList (off - 24) n

/-- The 32-byte code of a PROTECT card, bytes 32 to 63 of the slot (R176). -/
def Hand.code (h : Hand) : Code := Vector.ofFn fun i : Fin 32 => h.args[8 + i.val]

/-! ### Items (R177) -/

/-- A list's bytes cut into items of `size` bytes, `n` of them. -/
def itemsOf (size : Nat) : Nat → List Byte → List (List Byte)
  | 0, _ => []
  | n + 1, b => b.take size :: itemsOf size n (b.drop size)

/-- A path item as read. -/
structure PathItem where
  source : Nat
  dest : Nat
  op : Nat
  gain : Int
  delay : Nat
deriving DecidableEq, Repr

/-- R177. -/
def PathItem.ofBytes (b : List Byte) : PathItem :=
  { source := field b 0 1, dest := field b 1 1, op := field b 2 1, gain := field16s b 4, delay := field b 6 2 }

/-- A ceiling item as read. -/
structure CeilingItem where
  emitter : Nat
  ceiling : Nat
deriving DecidableEq, Repr

/-- R177. -/
def CeilingItem.ofBytes (b : List Byte) : CeilingItem := { emitter := field b 0 1, ceiling := field b 2 2 }

/-- A tail item as read. -/
structure TailItem where
  tail : Nat
  design : Nat
deriving DecidableEq, Repr

/-- R177. -/
def TailItem.ofBytes (b : List Byte) : TailItem := { tail := field b 0 1, design := field b 1 1 }

/-- A patch item as read. -/
structure PatchItem where
  slot : Nat
  action : Nat
  design : Nat
  tap : Nat
  delay : Nat
  gain : Int
deriving DecidableEq, Repr

/-- R177. -/
def PatchItem.ofBytes (b : List Byte) : PatchItem :=
  { slot := field b 0 1, action := field b 1 1, design := field b 2 1, tap := field b 3 1, delay := field b 4 2,
    gain := field16s b 6 }

/-- A pickup item as read. -/
structure PickupItem where
  pickup : Nat
  enable : Nat
  floor : Nat
  limit : Nat
  ring : RingGroup
deriving DecidableEq, Repr

/-- R177. -/
def PickupItem.ofBytes (b : List Byte) : PickupItem :=
  { pickup := field b 0 1, enable := field b 1 1, floor := field b 4 4, limit := field b 8 2
    ring := { cut := field b 2 1, recovery := field b 3 1, rise := field b 10 2, ringFloor := field b 12 4,
              trimFloor := field b 16 2, hold := field b 18 2 } }

/-- The index a mute item carries (R136, R177). -/
def muteIndex (b : List Byte) : Nat := field b 0 1

/-! ### Store image (R189) -/

/-- `n` records of `size` bytes from offset `off`, as a vector. -/
def vectorField {α : Type} (b : List Byte) (off size n : Nat) (f : List Byte → α) : Vector α n :=
  Vector.ofFn fun i : Fin n => f ((b.drop (off + size * i.val)).take size)

/-- A ring group lies within the ranges of R119. -/
def RingGroup.inRange (r : RingGroup) : Bool :=
  decide (257 ≤ r.rise ∧ r.rise ≤ 1023) && decide (r.ringFloor ≤ 268435455) && decide (r.cut ≤ 255)
    && decide (r.trimFloor ≤ 256) && decide (1 ≤ r.hold ∧ r.hold ≤ 60000) && decide (1 ≤ r.recovery ∧ r.recovery ≤ 64)

/-- R189. -/
def RingGroup.ofBytes (b : List Byte) : RingGroup :=
  { rise := field b 0 2, ringFloor := field b 2 4, cut := field b 6 1, recovery := field b 7 1, trimFloor := field b 8 2,
    hold := field b 10 2 }

/-- A slot of the image is in range: its occupied flag, and where occupied its design and tap delay (R189). -/
def patchInRange (b : List Byte) : Bool :=
  field b 0 1 == 0 || (field b 0 1 == 1 && decide (field b 1 1 < 40) && decide (1 ≤ field b 4 2))

/-- R189. -/
def patchOfBytes (b : List Byte) : Option Patch :=
  if h : field b 0 1 = 1 ∧ field b 1 1 < 40 then
    some { design := ⟨field b 1 1, h.2⟩, tap := field b 2 1, delay := field b 4 2, gain := field16s b 6 }
  else none

/-- R189: the protection state of an image's state byte, `none` for a byte out of range. -/
def imageState : Nat → Option ProtState
  | 0 => some .none | 1 => some .locked | 3 => some .isFixed | _ => none

/-- The good image that the flash's bytes hold, `none` for a bad one (R189). -/
def imageOfBytes (b : List Byte) : Option Image :=
  match imageState (field b 4 1) with
  | none => none
  | some st =>
    let rings := vectorField b 293 12 32 RingGroup.ofBytes
    if field b 677 4 = crc32 (b.take 677)
        ∧ (vectorField b 229 8 8 patchInRange).toList.all id = true
        ∧ rings.toList.all RingGroup.inRange = true then
      some { seq := field b 0 4, state := st, code := Vector.ofFn fun i : Fin 32 => b.getD (5 + i.val) 0
             ceilings := vectorField b 37 2 96 leNat, slots := vectorField b 229 8 8 patchOfBytes, rings := rings }
    else none

end Sys2Proof.Machine
end

