-- ==== Sys2Proof/Machine/Ops.lean ====
section
/-! DEFINITION. The shared operations over host memory, the progress record, the engine's run control, the card reader's passage from
card to card, and the register window. -/

namespace Sys2Proof.Machine

/-! ### Host memory (R6) -/

/-- The address of a byte of a transfer: 64 bits; what lies past the last address is a free value (assumption log 5). -/
def hostAddress (a : Nat) : Nat := if a < 2 ^ 64 then a else Config.addressPast a % 2 ^ 64

/-- What the part has written at an address, `none` where it has written nothing. -/
def HostMem.read : HostMem → Nat → Option Byte
  | [], _ => none
  | (k, b) :: m, a => if k = a then some b else HostMem.read m a

/-- One byte is written. -/
def HostMem.put : HostMem → Nat → Byte → HostMem
  | [], a, b => [(a, b)]
  | (k, c) :: m, a, b =>
    if a < k then (a, b) :: (k, c) :: m
    else if a = k then (a, b) :: m
    else (k, c) :: HostMem.put m a b

/-- The bytes of a transfer are written from an address on. -/
def HostMem.putAll : HostMem → Nat → List Byte → HostMem
  | m, _, [] => m
  | m, a, b :: bs => HostMem.putAll (m.put (hostAddress a) b) (a + 1) bs

/-- The canonical form: addresses strictly rising. -/
abbrev HostMem.wf (m : HostMem) : Prop := m.Pairwise fun x y => x.1 < y.1

/-- A transfer's bytes have reached host memory. -/
def land (t : Transfer) (s : State) : State := s.setHostMem (s.hostMem.putAll t.addr t.bytes)

/-- The read of one byte of host memory as the part has left it. -/
def State.readHost (s : State) (a : Nat) : Option Byte := s.hostMem.read a

/-! ### Progress record (R172, R174) -/

/-- The items of the standby list. -/
def Standby.items : Standby → List StandbyItem
  | .empty => []
  | .building is => is
  | .ready is _ => is

/-- Bytes 64 to 127 of the root record as they stand, with a record sequence (R174). -/
def progressBytes (s : State) (seq : Nat) : List Byte :=
  leBytes 1 s.engine.state.code ++ leBytes 1 s.reader.state.code ++ leBytes 2 s.reader.nextTag
    ++ leBytes 4 s.reader.cardsFinished ++ leBytes 2 s.stager.cueCounter ++ leBytes 2 s.stager.lastCue
    ++ leBytes 1 s.stager.goSource.code ++ leBytes 1 s.stager.goResult.code ++ leBytes 1 s.stager.goDest
    ++ leBytes 1 s.stager.standby.code ++ leBytes 2 s.stager.standby.items.length ++ leBytes 2 s.table.length
    ++ leBytes 2 s.stager.fade.cue ++ leBytes 2 s.stager.fade.remaining
    ++ leBytes 4 s.stager.superseded ++ leBytes 4 s.stager.stray ++ leBytes 4 s.cue.bounced ++ leBytes 4 s.meter.skips
    ++ leBytes 1 s.prot.state.code ++ leBytes 1 (levelCode s.cue.filtered) ++ leBytes 1 s.store.state.code ++ zeros 1
    ++ leBytes 4 seq ++ zeros 16

/-- A progress record write begins: the record sequence takes one more and the transfer carries the values as they stand
(R172). -/
def beginProgress (r : Root) (s : State) : State :=
  s.setProgress
    { seq := wrap32 s.progress.seq
      inFlight := some { addr := r.addr + 64, bytes := progressBytes s (wrap32 s.progress.seq) }
      again := false }

/-- An occasion to write the progress record (R172). -/
def progressOccasion (s : State) : State :=
  match s.root with
  | none => s
  | some r => if s.progress.inFlight.isSome then s.setProgress { s.progress with again := true } else beginProgress r s

/-! ### Run control (R84 to R87) -/

/-- The address in EXCHANGE HIGH and EXCHANGE LOW (R160). -/
def Regs.exchange (r : Regs) : Nat := r.exchangeHigh.toNat * 4294967296 + r.exchangeLow.toNat

/-- The engine enters STARTING and the read of the root begins at the exchange address (R86, R163). -/
def beginStart (s : State) : State :=
  s.setEngine { state := .starting, run := true, startAddr := s.regs.exchange }

/-- The engine enters STOPPED from STOPPING, and passes at once to STARTING if RUN reads 1 (R87). -/
def endStopping (s : State) : State :=
  if s.engine.run then beginStart s else s.setEngine { s.engine with state := .stopped }

/-- R87: the reader is OFF, and every emitter mute gain is 0 or the clock is absent. -/
def stoppingDone (s : State) : Bool :=
  decide (s.engine.state = .stopping) && decide (s.reader.state = .off)
    && (!s.mix.clock || s.sup.emitterGain.toList.all (· == 0))

/-- STOPPING ends where R87's condition holds. -/
def finishStopping (s : State) : State := if stoppingDone s then endStopping s else s

/-! ### Card reader: between cards (R165 to R171) -/

/-- Slot count of the root held. -/
def State.slotCount (s : State) : Nat := (s.root.map Root.slotCount).getD 1

/-- The slot a sweep reads next (R166). -/
def State.scanSlot (s : State) : Nat := (s.reader.scanPos + s.reader.streak) % s.slotCount

/-- A sweep starts from the scan position (R165). -/
def beginSweep (s : State) : State :=
  s.setReader { s.reader with state := .sweeping, streak := 0, finished := false }

/-- The reader goes OFF at a stop: the progress record is written if the sweep has finished a card, and the sweep-again flag
is cleared (R171). -/
def readerOff (s : State) : State :=
  let t := if s.reader.finished then progressOccasion s else s
  t.setReader { t.reader with state := .off, again := false, finished := false, hand := none }

/-- The reader goes on after a card: the scan continues, or the reader goes OFF if the engine is stopping (R167, R171). -/
def afterCard (s : State) : State := if s.engine.state = .stopping then readerOff s else s

/-- NEXT TAG takes one more, the scan position becomes the slot after the card's, and the card leaves the reader's hand
(R167 step 5, R170). -/
def passCard (h : Hand) (s : State) : State :=
  s.setReader { s.reader with
    nextTag := wrap16 s.reader.nextTag, scanPos := (h.slot + 1) % s.slotCount, streak := 0, hand := none }

/-- A card is finished: counted, and CARD raised if its notify flag is set (R167 step 6, R168). -/
def countFinished (by_ : Raiser) (notify : Bool) (s : State) : State :=
  let t := s.setReader { s.reader with cardsFinished := wrap32 s.reader.cardsFinished }
  if notify then raise by_ .card t else t

/-- A transfer between the reader and a slot has failed: FAULT.MEMORY is set and the reader is HALTED, or OFF if the
engine is stopping (R170, R171; assumption log 19). -/
def haltReader (s : State) : State :=
  let t := setFault .reader .memory s
  if t.engine.state = .stopping then readerOff t else t.setReader { t.reader with state := .halted, finished := false, hand := none }

/-- The transfers that complete a card: remaining, result and detail; each run of return fields; then the state in a transfer
of its own (R167 step 4, R175). -/
def completionTransfers (addr : Nat) (c : Completion) : List Transfer :=
  { addr := addr + 6, bytes := leBytes 2 c.remaining ++ leBytes 1 c.result.code ++ leBytes 1 c.detail }
    :: c.returns.map (fun r => { addr := addr + r.1, bytes := r.2 })
    ++ [{ addr := addr, bytes := leBytes 1 c.result.cardState }]

/-- The card in hand is replaced. -/
def setHand (h : Hand) (s : State) : State := s.setReader { s.reader with hand := some h }

/-- The completion writes of the card in hand begin. All their bytes are taken here, so that what comes between the writes changes no
return value: where a kind's rule names no moment for them, this is the model's (DESIGN CHOICE, assumption log 41). -/
def complete (h : Hand) (c : Completion) (s : State) : State :=
  setHand { h with phase := .completing (completionTransfers h.addr c) } s

/-- The card in hand is of a kind and its owning unit is to act on it; the bytes of its item list come with it. -/
def State.actingOn (s : State) (k : CardKind) : Option (Hand × List Byte) :=
  match s.reader.hand with
  | none => none
  | some h =>
    match h.phase with
    | .acting items => if h.kind = some k then some (h, items) else none
    | .taking | .listing _ _ | .blowing | .reporting _ _ _ _ _ | .completing _ => none

/-! ### Items of a card -/

/-- Items are applied in list order; the first that fails ends it, with its index and result, and the items before it stay
applied (R38, R47, R112, R115, R131). -/
def applyItems {σ α : Type} (f : σ → α → Except Result σ) : Nat → List α → σ → σ × Option (Nat × Result)
  | _, [], x => (x, none)
  | i, a :: as, x =>
    match f x a with
    | .ok y => applyItems f (i + 1) as y
    | .error r => (x, some (i, r))

/-- The completion of a card with items: OK with `detail`, or the failure at an item (R41, R48, R113, R116, R134). -/
def itemCompletion (count detail : Nat) (fail : Option (Nat × Result)) (returns : List (Nat × List Byte)) : Completion :=
  match fail with
  | none => { result := .ok, remaining := 0, detail := detail, returns := returns }
  | some (i, r) => { result := r, remaining := count - i, detail := i % 256, returns := returns }

/-! ### Mute gains (R80, R81) -/

/-- R80: one block end's movement of a mute gain toward its aim. -/
def moveGain (aim g : Nat) : Nat := if g < aim then min aim (g + 32) else if aim < g then max aim (g - 32) else g

/-- Every emitter mute gain is set to 0 (R81). -/
def silenceEmitters (s : State) : State := s.setSup { s.sup with emitterGain := Vector.replicate 96 0 }

/-! ### Histories (R95, R106) -/

/-- The canonical form of a history: no zeros after the last sample that is not 0. -/
def trimZeros : List Int → List Int
  | [] => []
  | x :: xs =>
    match trimZeros xs with
    | [] => if x = 0 then [] else [x]
    | y :: ys => x :: y :: ys

/-- The newest sample enters a history that holds `depth` samples. -/
def pushSample (depth : Nat) (x : Int) (h : List Int) : List Int := trimZeros ((x :: h).take depth)

/-- The sample `d` periods back. -/
def sampleAt (h : List Int) (d : Nat) : Int := h.getD d 0

/-- The newest bit enters a history of at most 4 bits, oldest first (R119, R152). -/
def pushFour {α : Type} (h : List α) (b : α) : List α :=
  let l := h ++ [b]
  l.drop (l.length - 4)

end Sys2Proof.Machine
end

