-- ==== Sys2Proof/Machine/Ramps.lean ====
section
/-! DEFINITION. The ramp unit: ordinary ramps, dips, retargeting and cuts, entry by entry (chapter 4), and the path table's
order (R8). -/

namespace Sys2Proof.Machine

/-! ### The path table (R8, R13, R14) -/

/-- A new entry stands at its place in key order (R8). -/
def insertEntry (e : Entry) : List Entry → List Entry
  | [] => [e]
  | x :: xs => if e.key.rank < x.key.rank then e :: x :: xs else x :: insertEntry e xs

/-- The entry with a key. -/
def findEntry (k : Key) (t : List Entry) : Option Entry := t.find? fun e => e.key == k

/-- The key is in the table. -/
def hasKey (t : List Entry) (k : Key) : Bool := t.any fun e => e.key == k

/-- The entry with a key is changed. -/
def updateEntry (k : Key) (f : Entry → Entry) (t : List Entry) : List Entry :=
  t.map fun e => if e.key = k then f e else e

/-- The entry with a key is deleted (R16). -/
def removeEntry (k : Key) (t : List Entry) : List Entry := t.filter fun e => !(e.key == k)

/-- The occupancy count of a destination code (R14). -/
def destCount (t : List Entry) (code : Nat) : Nat := t.countP fun e => e.key.destCode == code

/-! ### Movements over a fade of `n` blocks -/

/-- An ordinary ramp of an entry that is not RETIRING (R68). -/
def ordinaryRamp (n : Nat) (e : Entry) : Entry :=
  if n = 0 then { e with current := e.target, motion := .settled }
  else { e with motion := .ramping (Int.tdiv (e.target - e.current) n) n }

/-- A dip to delay `d`, or the delay switched at once where the fade is below 2 blocks (R70, R71). -/
def dipTo (n d : Nat) (e : Entry) : Entry :=
  if n < 2 then ordinaryRamp n { e with delay := d }
  else { e with motion := .dipDown (Int.tdiv (-e.current) (n / 2 : Nat)) (n / 2) d (n - n / 2) }

/-- The ramp toward 0 of a RETIRING entry; with a fade of 0 it leaves the table (R15, R16, R68). -/
def retiringRamp (n : Nat) (e : Entry) : Option Entry :=
  if n = 0 then none else some { e with motion := .retiring (Int.tdiv (0 - e.current) n) n }

/-- The entry rests at its current gain with no movement. -/
def settle1 (e : Entry) : Entry := { e with motion := .settled }

/-- The handover of a GO merge to an entry that the scene does not retire, where `asked` is the delay a SET item asked of it
(R57, R74, R75). -/
def goMovement (n : Nat) (asked : Option Nat) (e : Entry) : Entry :=
  let wanted : Nat :=
    match asked, e.motion with
    | some d, _ => d
    | none, .dipDown _ _ p _ => p
    | none, _ => e.delay
  let dipping : Bool :=
    match e.motion with
    | .dipDown _ _ _ _ | .dipUp _ _ => true
    | .settled | .ramping _ _ | .retiring _ _ => false
  if wanted ≠ e.delay then dipTo n wanted e
  else if dipping then ordinaryRamp n e
  else if e.target ≠ e.current then ordinaryRamp n e
  else settle1 e

/-- The movement a GO merge hands an entry; `none` where the entry leaves the table at the merge (R57). -/
def handMovement (n : Nat) (asked : Option Nat) (e : Entry) : Option Entry :=
  match e.motion with
  | .retiring _ _ => retiringRamp n e
  | .settled | .ramping _ _ | .dipDown _ _ _ _ | .dipUp _ _ => some (goMovement n asked e)

/-- The handover of a CEILINGS card over the ceiling fade `m` to an entry into a listed emitter (R76). -/
def ceilingMovement (m : Nat) (e : Entry) : Entry :=
  match e.motion with
  | .retiring _ _ => e
  | .dipDown _ _ p _ => dipTo m p e
  | .dipUp _ _ =>
    if e.target = e.current then settle1 e
    else if m = 0 then { e with current := e.target, motion := .settled }
    else { e with motion := .dipUp (Int.tdiv (e.target - e.current) m) m }
  | .settled | .ramping _ _ => if e.target = e.current then settle1 e else ordinaryRamp m e

/-! ### Block ends -/

/-- The end that a block end brings an entry to, if its remaining count has reached its last block (R69, R72, R73). -/
def Entry.dueEnd (e : Entry) : Option Due :=
  match e.motion with
  | .settled => none
  | .ramping _ r => if r ≤ 1 then some (.ramp e.key) else none
  | .retiring _ r => if r ≤ 1 then some (.removal e.key) else none
  | .dipDown _ r _ _ => if r ≤ 1 then some (.dipLow e.key) else none
  | .dipUp _ r => if r ≤ 1 then some (.dipUp e.key) else none

/-- One step of a movement that does not end at this block end (R69, R72, R73). -/
def Entry.advance (e : Entry) : Entry :=
  match e.motion with
  | .settled => e
  | .ramping st r => if r ≤ 1 then e else { e with current := e.current + st, motion := .ramping st (r - 1) }
  | .retiring st r => if r ≤ 1 then e else { e with current := e.current + st, motion := .retiring st (r - 1) }
  | .dipDown st r p u => if r ≤ 1 then e else { e with current := e.current + st, motion := .dipDown st (r - 1) p u }
  | .dipUp st r => if r ≤ 1 then e else { e with current := e.current + st, motion := .dipUp st (r - 1) }

/-- The end of a ramp: the current gain takes the target exactly and the entry is SETTLED (R69). -/
def Entry.landRamp (e : Entry) : Entry := { e with current := e.target, motion := .settled }

/-- The low point of a dip (R72). -/
def Entry.lowPoint (e : Entry) : Entry :=
  match e.motion with
  | .dipDown _ _ p u => { e with current := 0, delay := p, motion := .dipUp (Int.tdiv e.target u) u }
  | .settled | .ramping _ _ | .retiring _ _ | .dipUp _ _ => e

/-- The end of a dip's up phase (R73). -/
def Entry.upEnd (e : Entry) : Entry := { e with current := e.target, motion := .settled }

end Sys2Proof.Machine
end

