-- ==== Sys2Proof/Machine/Budget.lean ====
section
/-! DEFINITION. The budget unit: source weights, the tail stage and the emitter stage (chapter 2). The computation reads
requested gains and tail weights and nothing of the supervisor or the mix engine (R34). -/

namespace Sys2Proof.Machine

/-- A sum over the entries that meet a test. -/
def sumOver (test : Entry → Bool) (f : Entry → Nat) (t : List Entry) : Nat := ((t.filter test).map f).sum

/-- The entry's destination is a tail. -/
def intoTail (t : Fin 16) (e : Entry) : Bool := decide (destTail e.key = some t)

/-- The entry's destination is an emitter. -/
def intoEmitter (em : Fin 96) (e : Entry) : Bool := decide (destEmitter e.key = some em)

/-- S_T: the sum of the magnitudes of the requested gains into a tail (R30). -/
def tailSum (table : List Entry) (t : Fin 16) : Nat := sumOver (intoTail t) (fun e => e.requested.natAbs) table

/-- The target of a path into a tail whose requested gains sum to `total` (R30). -/
def tailTarget (total : Nat) (requested : Int) : Int :=
  if total ≤ 32768 then requested else Int.tdiv (requested * 32768) total

/-- The tail stage for all 16 tails (R30, R36). -/
def tailStage (table : List Entry) : List Entry :=
  table.map fun e =>
    match destTail e.key with
    | some t => { e with target := tailTarget (tailSum table t) e.requested }
    | none => e

/-- W_T: the sum of the magnitudes of the target gains into a tail (R29). -/
def tailWeight (table : List Entry) (t : Fin 16) : Nat := sumOver (intoTail t) (fun e => e.target.natAbs) table

/-- The source weight of an entry into an emitter (R29). -/
def sourceWeight (table : List Entry) (e : Entry) : Nat :=
  match sourceTail e.key with
  | some t => tailWeight table t
  | none => 16384

/-- S_E: the weighted sum of the requested gains into an emitter (R31). -/
def emitterSum (table : List Entry) (em : Fin 96) : Nat :=
  sumOver (intoEmitter em) (fun e => e.requested.natAbs * sourceWeight table e) table

/-- The target of a path into an emitter with ceiling `c` and weighted sum `total` (R31). -/
def emitterTarget (c total : Nat) (requested : Int) : Int :=
  if c = 0 then 0
  else if total ≤ c * 16384 then requested
  else Int.tdiv (requested * (c * 16384 : Nat)) total

/-- The clamp flag the emitter stage leaves (R31). -/
def emitterClamp (table : List Entry) (c : Nat) (em : Fin 96) : Bool :=
  if c = 0 then table.any fun e => intoEmitter em e && decide (e.requested ≠ 0)
  else decide (c * 16384 < emitterSum table em)

/-- The emitter stage for the emitters that meet `chosen` (R31, R39). -/
def emitterStage (ceilings : Vector Nat 96) (chosen : Fin 96 → Bool) (table : List Entry) : List Entry :=
  table.map fun e =>
    match destEmitter e.key with
    | some em =>
      if chosen em then { e with target := emitterTarget ceilings[em] (emitterSum table em) e.requested } else e
    | none => e

/-- The clamp flags after the emitter stage for the emitters that meet `chosen` (R31, R39). -/
def clampStage (b : Budget) (chosen : Fin 96 → Bool) (table : List Entry) : Vector Bool 96 :=
  Vector.ofFn fun em => if chosen em then emitterClamp table b.ceilings[em] em else b.clamped[em]

/-- The table after a full computation: the tail stage, then the emitter stage with the weights it has made (R36). -/
def fullBudget (b : Budget) (table : List Entry) : List Entry :=
  emitterStage b.ceilings (fun _ => true) (tailStage table)

/-- The clamp flags after a full computation (R36). -/
def fullClamp (b : Budget) (table : List Entry) : Vector Bool 96 :=
  clampStage b (fun _ => true) (tailStage table)

end Sys2Proof.Machine
end

