-- ==== Sys2Proof/Machine/Merge.lean ====
section
/-! DEFINITION. Staging, the capacity check and the GO merge as operations of the scene stager (chapter 3). -/

namespace Sys2Proof.Machine

/-! ### Staging (R47) -/

/-- The standby list with an item staged: an item whose key is in the list is overwritten in its place (R44). -/
def stageInto (it : StandbyItem) : List StandbyItem → List StandbyItem
  | [] => [it]
  | x :: xs => if x.key = it.key then it :: xs else x :: stageInto it xs

/-- What a path item stages: a SET item's delay above 4800 is staged as 4800 (R47). -/
def PathItem.stagedOp (p : PathItem) : StandbyOp := if p.op = 0 then .set p.gain (min p.delay 4800) else .retire

/-- The number of values clamped in staging a path item (R47). -/
def PathItem.clamps (p : PathItem) : Nat := if p.op = 0 ∧ 4800 < p.delay then 1 else 0

/-- One item of a STAGE card on the list and the count of clamped delays (R47). -/
def stageItem (x : List StandbyItem × Nat) (p : PathItem) : Except Result (List StandbyItem × Nat) :=
  if 1 < p.op then .error .badField
  else
    match Key.ofCodes p.source p.dest with
    | none => .error .range
    | some k =>
      if (x.1.any fun i => i.key == k) = false ∧ 1536 ≤ x.1.length then .error .standbyFull
      else .ok (stageInto { key := k, op := p.stagedOp } x.1, x.2 + p.clamps)

/-- The standby state around a list after a STAGE card: the first item staged moves EMPTY to BUILDING (R45). -/
def stagedState (before : Standby) (items : List StandbyItem) : Standby :=
  match before, items with
  | .empty, [] => .empty
  | _, is => .building is

/-! ### Capacity check (R53) -/

/-- The item is a SET item whose key is absent from the table. -/
def isNewKey (table : List Entry) (it : StandbyItem) : Bool :=
  match it.op with
  | .set _ _ => !hasKey table it.key
  | .retire => false

/-- The new keys of a scene, in list order. -/
def newKeys (table : List Entry) (items : List StandbyItem) : List Key := (items.filter (isNewKey table)).map (·.key)

/-- The first new key that brings its destination past 24 entries, by destination code; `seen` are the new keys before
it. -/
def fullDest (table : List Entry) : List Key → List Key → Option Nat
  | _, [] => none
  | seen, k :: ks =>
    if 24 < destCount table k.destCode + (seen.countP fun j => j.destCode == k.destCode) + 1 then some k.destCode
    else fullDest table (k :: seen) ks

/-- The capacity check: the refusal and the destination code it names, `none` where it passes (R53); TABLE_FULL names none, and the
code is 0 (assumption log 32). -/
def capacityCheck (table : List Entry) (items : List StandbyItem) : Option (Result × Nat) :=
  let new := newKeys table items
  if 1536 < table.length + new.length then some (.tableFull, 0)
  else (fullDest table [] new).map fun d => (.destFull, d)

/-! ### The merge (R55 to R57) -/

/-- A SET item on the entry it names: requested gain and last cue are written, and a RETIRING entry stops retiring (R17,
R55). -/
def Entry.asked (cue : Nat) (gain : Int) (e : Entry) : Entry :=
  { e with
    requested := gain
    lastCue := cue
    motion := match e.motion with
      | .retiring _ _ => .settled
      | m => m }

/-- A SET item's new entry (R55). -/
def newEntry (cue : Nat) (k : Key) (gain : Int) (delay : Nat) : Entry :=
  { key := k, requested := gain, target := 0, current := 0, delay := delay, motion := .settled, lastCue := cue }

/-- One item of the scene: SET items update or create an entry (R55). -/
def mergeItem (cue : Nat) (table : List Entry) (it : StandbyItem) : List Entry :=
  match it.op with
  | .set g d => if hasKey table it.key then updateEntry it.key (Entry.asked cue g) table
                else insertEntry (newEntry cue it.key g d) table
  | .retire => table

/-- An entry is made RETIRING: its requested gain is 0 and a dip is abandoned with the delay in use kept (R15). Its ramp is
handed to it by the same merge. -/
def Entry.retire (e : Entry) : Entry := { e with requested := 0, motion := .retiring 0 1 }

/-- The key is named by a SET item, or by a RETIRE item, of the list. -/
def namedBy (set : Bool) (items : List StandbyItem) (k : Key) : Bool :=
  items.any fun it => it.key == k && (match it.op with | .set _ _ => set | .retire => !set)

/-- Whether the scene retires an entry (R56). -/
def retires (m : Mode) (items : List StandbyItem) (k : Key) : Bool :=
  match m with
  | .replace => !namedBy true items k
  | .amend => namedBy false items k

/-- The delay a SET item of the scene asks of a key (R55). -/
def askedDelay (items : List StandbyItem) (k : Key) : Option Nat :=
  items.findSome? fun it => if it.key = k then (match it.op with | .set _ d => some d | .retire => none) else none

/-- The table with the scene's requested gains written and its entries retired, before the budget (R55, R56). -/
def requestedTable (table : List Entry) (items : List StandbyItem) (h : Header) : List Entry :=
  (items.foldl (mergeItem h.cue) table).map fun e => if retires h.mode items e.key then e.retire else e

/-- The table after the merge: the budget's targets, and the movement of each entry over the scene's fade (R57). -/
def mergedTable (b : Budget) (table : List Entry) (items : List StandbyItem) (h : Header) : List Entry :=
  (fullBudget b (requestedTable table items h)).filterMap fun e => handMovement h.fade (askedDelay items e.key) e

/-- The scene stager after the merge has closed the scene and set the fade record (R58, R59); the last GO's destination is 0
(assumption log 32). -/
def Stager.closed (src : GoSource) (h : Header) (st : Stager) : Stager :=
  { st with
    standby := .empty
    fade := { cue := h.cue, remaining := h.fade, counting := decide (0 < h.fade) }
    cueCounter := wrap16 st.cueCounter
    lastCue := h.cue
    goSource := src
    goResult := .ok
    goDest := 0
    superseded := if st.fade.counting then wrap32 st.superseded else st.superseded }

/-- The merge writes table, clamp flags and stager in one action (R36, R55 to R59). -/
def mergeWrites (src : GoSource) (items : List StandbyItem) (h : Header) (s : State) : State :=
  ((s.setTable (mergedTable s.budget s.table items h)).setBudget
    { s.budget with clamped := fullClamp s.budget (requestedTable s.table items h) }).setStager (s.stager.closed src h)

/-- What follows an executed GO: CUE, the progress record, and for a fade of 0 FADE with its own occasion (R59, R61,
R172; assumption log 21). -/
def announceGo (fade : Nat) (s : State) : State :=
  let t := progressOccasion (raise .stager .cue s)
  if fade = 0 then progressOccasion (raise .stager .fade t) else t

/-- The merge. -/
def executeScene (src : GoSource) (items : List StandbyItem) (h : Header) (s : State) : State :=
  announceGo h.fade (mergeWrites src items h s)

/-- The last GO's source and result are written for a refused GO (R51, R52, R54). -/
def Stager.refused (src : GoSource) (r : Result) (dest : Nat) (st : Stager) : Stager :=
  { st with goSource := src, goResult := r, goDest := dest }

/-- A GO refused as not ready: a line GO counts as stray (R52, R65); the last GO's destination is 0 (assumption log 32). -/
def refuseNotReady (src : GoSource) (s : State) : State :=
  let st := s.stager.refused src .notReady 0
  progressOccasion (s.setStager (if src = .line then { st with stray := wrap32 st.stray } else st))

/-- A GO refused by the capacity check: a line GO raises CUE, before the progress record write begins (R54; the order: assumption
log 33). -/
def refuseCapacity (src : GoSource) (r : Result) (dest : Nat) (s : State) : State :=
  let t := s.setStager (s.stager.refused src r dest)
  progressOccasion (if src = .line then raise .stager .cue t else t)

/-- What a GO came to (R62): result, the destination a DEST_FULL names, cue number executed, entries created. -/
structure GoOutcome where
  result : Result
  dest : Nat
  executed : Nat
  created : Nat
deriving DecidableEq, Repr

/-- The scene stager takes a GO (R51 to R61). -/
def takeGo (src : GoSource) (s : State) : State × GoOutcome :=
  match s.stager.standby with
  | .ready items h =>
    match capacityCheck s.table items with
    | none =>
      (executeScene src items h s,
        { result := .ok, dest := 0, executed := h.cue, created := (newKeys s.table items).length })
    | some (r, d) => (refuseCapacity src r d s, { result := r, dest := d, executed := 0, created := 0 })
  | .empty | .building _ => (refuseNotReady src s, { result := .notReady, dest := 0, executed := 0, created := 0 })

end Sys2Proof.Machine
end

