-- ==== Sys2Proof/Machine/TailTaps.lean ====
section
/-! DEFINITION. The design library and its taps as patched (R105, R108, R109). Tap delays and gains are vendor data: free values
brought into the ranges the manual gives (assumption log 3). -/

namespace Sys2Proof.Machine

/-- Tap counts and spans of D0 to D39 (R105). -/
def designTable : List (Nat × Nat) :=
  [(8, 1440), (8, 2160), (10, 2880), (10, 3360), (12, 3840), (12, 4320), (12, 4800), (9, 1920), (14, 7200), (14, 8640)]
  ++ [(16, 9600), (16, 11520), (16, 12960), (18, 14400), (18, 16320), (20, 17280), (15, 10080), (17, 13440), (19, 15840),
      (20, 19200)]
  ++ [(20, 21600), (21, 24000), (22, 26400), (22, 28800), (24, 31200), (24, 33600), (21, 23040), (23, 30240), (24, 36000),
      (24, 38400)]
  ++ [(22, 27360), (23, 34080), (24, 43200), (24, 48000), (24, 52800), (24, 57600), (24, 62400), (24, 65535), (20, 45600),
      (16, 40800)]

/-- The tap count of a design (R105). -/
def tapCount (d : Fin 40) : Nat := (designTable.getD d.val (0, 0)).1

/-- The span of a design (R105). -/
def span (d : Fin 40) : Nat := (designTable.getD d.val (0, 0)).2

/-- A tap: its delay and its gain code. -/
structure Tap where
  delay : Nat
  gain : Int
deriving DecidableEq, Repr

/-- Tap `k` of a design in the library: its delay is 1 to the span, and one tap's is the span (R105). -/
def libraryTap (d : Fin 40) (k : Nat) : Tap :=
  { delay := if k = Config.spanTap d.val % tapCount d then span d else 1 + Config.tapDelay d.val k % span d
    gain := (Config.tapGain d.val k).toInt }

/-- The lowest-numbered slot that names a design and tap (R108). -/
def slotFor (slots : Vector (Option Patch) 8) (d : Fin 40) (k : Nat) : Option Patch :=
  slots.toList.findSome? fun o =>
    match o with
    | some p => if p.design = d ∧ p.tap = k then some p else none
    | none => none

/-- Tap `k` of a design as patched (R108). -/
def effectiveTap (slots : Vector (Option Patch) 8) (d : Fin 40) (k : Nat) : Tap :=
  match slotFor slots d k with
  | some p => { delay := p.delay, gain := p.gain }
  | none => libraryTap d k

/-- The effective taps of a design (R108). -/
def effectiveTaps (slots : Vector (Option Patch) 8) (d : Fin 40) : List Tap :=
  (List.range (tapCount d)).map (effectiveTap slots d)

/-- An occupied slot whose tap index is at or beyond its design's tap count (R109). -/
def ineffective (o : Option Patch) : Bool :=
  match o with
  | some p => decide (tapCount p.design ≤ p.tap)
  | none => false

/-- The exact sum a tail's taps form from its delay memory (R107). -/
def tapSum (taps : List Tap) (memory : List Int) : Int :=
  (taps.map fun t => sampleAt memory t.delay * t.gain).sum

end Sys2Proof.Machine
end

