-- ==== Sys2Proof/Machine/Returns.lean ====
section
/-! DEFINITION. The return fields of each card kind (R176), from the values the owning units hold. -/

namespace Sys2Proof.Machine

/-- The clamp set and the clamped count (R35). -/
def clampBytes (s : State) : List Byte :=
  flagBytes 12 s.budget.clamped.toList ++ leBytes 1 (flagCount s.budget.clamped.toList)

/-- Item count and standby state, at an offset (STAGE 24, STANDBY 32). -/
def standbyReturn (off : Nat) (s : State) : List (Nat × List Byte) :=
  [(off, leBytes 2 s.stager.standby.items.length ++ leBytes 1 s.stager.standby.code)]

/-- DROP STANDBY: the items dropped. -/
def dropReturn (dropped : Nat) : List (Nat × List Byte) := [(24, leBytes 2 dropped)]

/-- GO: clamp set and count; cue number executed, cue counter, entries created, entries after (R62). -/
def goReturn (executed created : Nat) (s : State) : List (Nat × List Byte) :=
  [(24, clampBytes s),
   (38, leBytes 2 executed ++ leBytes 2 s.stager.cueCounter ++ leBytes 2 created ++ leBytes 2 s.table.length)]

/-- CEILINGS: clamp set and count (R41). -/
def ceilingsReturn (s : State) : List (Nat × List Byte) := [(28, clampBytes s)]

/-- TAILS: the 16 design codes and a sounding set (R113). -/
def tailsReturn (sound : List Bool) (s : State) : List (Nat × List Byte) :=
  [(24, s.tails.designs.toList.flatMap (fun d => leBytes 1 (designCode d)) ++ flagBytes 2 sound)]

/-- PATCHES: occupied set, ineffective set and a sounding set (R116). -/
def patchesReturn (sound : List Bool) (s : State) : List (Nat × List Byte) :=
  [(24, flagBytes 1 (s.tails.slots.toList.map Option.isSome) ++ flagBytes 1 (s.tails.slots.toList.map ineffective)
      ++ flagBytes 2 sound)]

/-- State codes of the pickups, 2 bits each (R176). -/
def stateCodes : List Pickup → Nat
  | [] => 0
  | p :: ps => p.state.code + 4 * stateCodes ps

/-- PICKUPS: the state codes and the trimmed set (R134). -/
def pickupsReturn (s : State) : List (Nat × List Byte) :=
  [(24, leBytes 8 (stateCodes s.sup.pickups.toList)
      ++ flagBytes 4 (s.sup.pickups.toList.map fun p => decide (p.trim < 256)))]

/-- The mute flags of a map, 12 bytes: 0 pickups, 1 emitters; another map names no flags (R138; assumption log 12). -/
def muteSetBytes (map : Nat) (s : State) : List Byte :=
  if map = 0 then flagBytes 12 (s.sup.pickups.toList.map (·.muteFlag))
  else if map = 1 then flagBytes 12 s.sup.emitterFlag.toList
  else leBytes 12 (Config.flagsOfNoMap map).toNat

/-- MUTES: the flag set of the named map (R138). -/
def mutesReturn (map : Nat) (s : State) : List (Nat × List Byte) := [(28, muteSetBytes map s)]

/-- SNAPSHOT: page sequence count and meter-skip count (R149). -/
def snapshotReturn (pageSeq skips : Nat) : List (Nat × List Byte) := [(28, leBytes 4 pageSeq ++ leBytes 4 skips)]

/-- CUE LINE: the configuration, the filtered level and the bounced count (R159). -/
def cueLineReturn (s : State) : List (Nat × List Byte) :=
  [(32, leBytes 1 s.cue.enable.toNat ++ leBytes 1 s.cue.edge.code ++ leBytes 1 s.cue.filter
      ++ leBytes 1 (levelCode s.cue.filtered) ++ leBytes 2 s.cue.holdoff),
   (40, leBytes 4 s.cue.bounced)]

/-- PROTECT: the protection state (R185). -/
def protectReturn (s : State) : List (Nat × List Byte) := [(25, leBytes 1 s.prot.state.code)]

/-- STORE: an image sequence number (R190). -/
def storeReturn (seq : Nat) : List (Nat × List Byte) := [(24, leBytes 4 seq)]

/-- REPORT: number written, entries and cue counter at capture (R24). -/
def reportReturn (written total cueCounter : Nat) : List (Nat × List Byte) :=
  [(32, leBytes 2 written ++ leBytes 2 total ++ leBytes 2 cueCounter)]

/-- The return fields of a card completed without its owning unit's action: the values the unit holds as they stand, and 0 for
what the card itself would have done (R167). They are taken at the step that completes the card, when the first of its writes begins:
R167's "when the card is completed" names no moment among those writes (DESIGN CHOICE, assumption log 41). -/
def returnsAsStands (h : Hand) (s : State) : List (Nat × List Byte) :=
  match h.kind with
  | none => []
  | some .stage => standbyReturn 24 s
  | some .standby => standbyReturn 32 s
  | some .dropStandby => dropReturn 0
  | some .go => goReturn 0 0 s
  | some .ceilings => ceilingsReturn s
  | some .tails => tailsReturn (soundingSet s.table) s
  | some .patches => patchesReturn (soundingSet s.table) s
  | some .pickups => pickupsReturn s
  | some .mutes => mutesReturn (h.arg 25 1) s
  | some .snapshot => snapshotReturn s.meter.pageSeq s.meter.skips
  | some .cueLine => cueLineReturn s
  | some .protect => protectReturn s
  | some .store => storeReturn s.store.seq
  | some .report => reportReturn 0 s.table.length s.stager.cueCounter

/-- A card refused whole with its count as remaining: BAD_FIELD, STANDBY_READY, LINK, STALE_TAG (R46, R136, R164, R166, R167).
The values are those that stand when the completion begins, a CEILINGS card's clamp flags (R35) included: assumption log 41, 43. -/
def refusedWhole (r : Result) (h : Hand) (s : State) : Completion :=
  { result := r, remaining := h.count, detail := 0, returns := returnsAsStands h s }

end Sys2Proof.Machine
end

