-- ==== Sys2Proof/Machine/Meters.lean ====
section
/-! DEFINITION. The meter unit's operations: accumulation, the snapshot and the end of a page (chapter 8). The commands over them
stand in Machine/MeterUnit.lean. -/

namespace Sys2Proof.Machine

/-- Peak and energy of a closed block (R99). -/
structure BlockMeasure where
  peak : Nat
  energy : Nat
deriving DecidableEq, Repr

/-- The measures a running measure comes to at the block end: energy is floor of the sum of squares over 16777216 (R99). -/
def Measure.closed (m : Measure) : BlockMeasure := { peak := m.peak, energy := m.squares / 16777216 }

/-- The largest energy sum (R142). -/
def maxEnergySum : Nat := 1099511627775

/-- A record takes the measures of a closed block (R143); `clipped` is the saturation indicator of an emitter's block. -/
def Accum.add (m : BlockMeasure) (clipped : Bool) (a : Accum) : Accum :=
  { peak := max a.peak m.peak
    energy := min maxEnergySum (a.energy + m.energy)
    blocks := countTo 65535 a.blocks
    clips := if clipped then countTo 65535 a.clips else a.clips }

/-- The 128 records take the measures of a closed block (R143). -/
def Meter.accumulate (b : Block) (m : Meter) : Meter :=
  { m with
    pickups := Vector.ofFn fun i : Fin 32 => m.pickups[i].add b.pickups[i].closed false
    emitters := Vector.ofFn fun i : Fin 96 => m.emitters[i].add b.emitters[i].closed b.emitterSat[i] }

/-- What a snapshot takes of a pickup (R145). -/
def Pickup.held (p : Pickup) : HeldPickup := { state := p.state, trim := p.trim, ringCount := p.ringCount }

/-- The hold set a snapshot takes (R145). -/
def holdOf (src : SnapSource) (s : State) : Hold :=
  { pickups := s.meter.pickups
    emitters := s.meter.emitters
    records := s.sup.pickups.map Pickup.held
    emitterClip := s.mix.emitterClip
    tailClip := s.mix.tailClip
    clipBlocks := s.mix.clipBlocks
    skips := s.meter.skips
    source := src }

/-- The clip flags and clip-block counts are cleared (R101). -/
def Mix.clipsCleared (m : Mix) : Mix :=
  { m with emitterClip := Vector.replicate 96 false, tailClip := Vector.replicate 16 false,
           clipBlocks := Vector.replicate 96 0 }

/-- A snapshot is taken: hold set, cleared accumulators, clip clearing where asked, and the page write begun at the root's meter page
address (R145, R147). -/
def takeSnapshot (r : Root) (src : SnapSource) (clear : Bool) (s : State) : State :=
  let m := s.meter
  let t := s.setMeter { m with
    hold := some (holdOf src s)
    pickups := Vector.replicate 32 .zero
    emitters := Vector.replicate 96 .zero
    writer := some { addr := r.meterPage, seq := wrap32 m.pageSeq, turn := 0 } }
  if clear then t.setMix t.mix.clipsCleared else t

/-- An interval snapshot is asked of the writer: taken if it is IDLE, otherwise the meter-skip count takes one more
(R145, R146). -/
def askInterval (s : State) : State :=
  match s.meter.writer, s.root with
  | none, some r => takeSnapshot r .interval false s
  | none, none => s
  | some _, _ => s.setMeter { s.meter with skips := wrap32 s.meter.skips }

/-- The meter interval expires: the counter becomes 0 and an interval snapshot is asked (R144). -/
def meterExpiry (s : State) : State := askInterval (s.setMeter { s.meter with interval := 0 })

end Sys2Proof.Machine
end

