-- ==== Sys2Proof/Machine/Supervision.lean ====
section
/-! DEFINITION. The pickup supervisor's operations: the block end of one pickup, its silence and hold ends, and mute-gain
movement (chapter 7, section 4.6). -/

namespace Sys2Proof.Machine

/-- 3 or more of the last 4 bits are set (R123, R125). -/
def threeOfFour (h : List Bool) : Bool := decide (3 ≤ h.count true)

/-- The presence bit of a block (R123). -/
def Pickup.presenceBit (p : Pickup) (peak : Nat) : Bool := decide (p.floor ≤ peak)

/-- The rise bit of a block (R124). -/
def Pickup.riseBit (p : Pickup) (energy : Nat) : Bool :=
  decide (p.ring.ringFloor ≤ energy) && decide (p.previous * p.ring.rise < energy * 256)

/-- What a block end brings one pickup to (R121). -/
inductive PickupOutcome where
  /-- nothing to announce -/
  | quiet
  /-- the silence counter has reached its limit: SILENCE_LIMIT is due (R122) -/
  | silenceDue
  /-- a ring event (R126) -/
  | rang
  /-- a return from SILENT (R123) -/
  | returned
  /-- the hold counter has come to its last block: RING_HOLD_END is due (R127) -/
  | holdDue
deriving DecidableEq, Repr

/-- A ring event (R126). -/
def Pickup.ringEvent (p : Pickup) : Pickup :=
  { p with
    trim := max p.ring.trimFloor (p.trim * p.ring.cut / 256)
    hold := p.ring.hold
    ringCount := countTo 65535 p.ringCount
    rises := []
    state := .ringing }

/-- The return from SILENT (R123). -/
def Pickup.comeBack (p : Pickup) : Pickup :=
  { p with state := .live, trim := p.ring.trimFloor, silence := 0, presence := [], rises := [], previous := 0 }

/-- The presence test of a SILENT pickup (R123). -/
def Pickup.presenceTest (peak : Nat) (p : Pickup) : Pickup × PickupOutcome :=
  let h := pushFour p.presence (p.presenceBit peak)
  if threeOfFour h then (p.comeBack, .returned) else ({ p with presence := h }, .quiet)

/-- The silence counter counts a block (R122). -/
def Pickup.countSilence (peak : Nat) (p : Pickup) : Pickup :=
  { p with silence := if p.floor ≤ peak then 0 else p.silence + 1 }

/-- Steps 3 and 4 of R121: the rise history, and a ring event, a recovery or a hold step (R125 to R128). -/
def Pickup.monitor (bit : Bool) (p : Pickup) : Pickup × PickupOutcome :=
  let h := pushFour p.rises bit
  let q := { p with rises := h }
  if threeOfFour h then (q.ringEvent, .rang)
  else if p.state = .live then ({ q with trim := min 256 (p.trim + p.ring.recovery) }, .quiet)
  else if p.hold ≤ 1 then (q, .holdDue)
  else ({ q with hold := p.hold - 1 }, .quiet)

/-- R121: one pickup at a block end, apart from its mute gain. -/
def Pickup.blockEnd (m : Nat × Nat) (p : Pickup) : Pickup × PickupOutcome :=
  match p.state with
  | .disabled => (p, .quiet)
  | .silent => p.presenceTest m.1
  | .live | .ringing =>
    let q := Pickup.countSilence m.1 { p with previous := m.2 }
    if m.1 < p.floor ∧ p.limit ≤ q.silence then (q, .silenceDue) else q.monitor (p.riseBit m.2)

/-- Entry to SILENT by the silence watchdog (R122). -/
def Pickup.goSilent (p : Pickup) : Pickup :=
  { p with
    state := .silent
    silence := 0
    presence := []
    rises := []
    previous := 0
    hold := if p.state = .ringing then 0 else p.hold }

/-- The hold counter reaches 0 (R127). -/
def Pickup.endHold (p : Pickup) : Pickup := { p with hold := 0, state := .live }

/-- The aim of a pickup mute gain (R80). -/
def pickupAim (flag : Bool) : Nat := if flag then 0 else 256

/-- The aim of an emitter mute gain (R80). -/
def emitterAim (running flag : Bool) : Nat := if running && !flag then 256 else 0

/-- Every mute gain moves toward its aim (R80). -/
def Supervisor.moveGains (running : Bool) (u : Supervisor) : Supervisor :=
  { u with
    pickups := u.pickups.map fun p => { p with muteGain := moveGain (pickupAim p.muteFlag) p.muteGain }
    emitterGain := Vector.ofFn fun e : Fin 96 => moveGain (emitterAim running u.emitterFlag[e]) u.emitterGain[e] }

/-- Pickup `i` is changed. -/
def Supervisor.setPickup (i : Fin 32) (p : Pickup) (u : Supervisor) : Supervisor :=
  { u with pickups := u.pickups.set i p }

/-- The end a pickup's block end has made due. -/
def PickupOutcome.due (i : Fin 32) : PickupOutcome → Option Due
  | .silenceDue => some (.silence i)
  | .holdDue => some (.ringHold i)
  | .quiet | .rang | .returned => none

/-- The notice a pickup's block end raises (R140). -/
def PickupOutcome.notice : PickupOutcome → Option NoticeKind
  | .rang => some .ring
  | .returned => some .pickup
  | .quiet | .silenceDue | .holdDue => none

end Sys2Proof.Machine
end

