-- ==== Sys2Proof/Machine/Due.lean ====
section
/-! DEFINITION. What a block end leaves to be taken as steps of their own, and the opening of the next block. A block end is one event
(R90), and the table gives the ends it brings about rows of their own. BLOCK_END lists them in `due`; each is taken by its own
command, and every other command first finds all of them taken (`settle`), so that nothing comes between a block end and
its ends (assumption log 1). -/

namespace Sys2Proof.Machine

/-! ### Effective gain (R18 to R20) -/

/-- The pickup factor (R18). -/
def Pickup.factor (p : Pickup) : Nat :=
  match p.state with
  | .disabled | .silent => 0
  | .live | .ringing => p.trim * p.muteGain / 256

/-- The source factor of a key (R18). -/
def sourceFactor (u : Supervisor) : Key → Nat
  | .tailToEmitter _ _ => 256
  | .pickupToEmitter p _ => u.pickups[p].factor
  | .pickupToTail p _ => u.pickups[p].factor

/-- The destination factor of a key (R19). -/
def destFactor (u : Supervisor) : Key → Nat
  | .pickupToTail _ _ => 256
  | .pickupToEmitter _ e => u.emitterGain[e]
  | .tailToEmitter _ e => u.emitterGain[e]

/-- R20. -/
def effectiveGain (current : Int) (source dest : Nat) : Int := Int.tdiv (current * source * dest) 65536

/-- The values that serve a block, as they stand (R21, R79, R108, R130). -/
def blockStart (s : State) : BlockStart :=
  { entries := s.table.map fun e =>
      { key := e.key, delay := e.delay, gain := effectiveGain e.current (sourceFactor s.sup e.key) (destFactor s.sup e.key) }
    designs := s.tails.designs
    slots := s.tails.slots }

/-- A block with no sample taken yet (R90). -/
def freshBlock (b : BlockStart) : Block :=
  { index := 0
    start := b
    pickups := Vector.replicate 32 { peak := 0, squares := 0 }
    emitters := Vector.replicate 96 { peak := 0, squares := 0 }
    emitterSat := Vector.replicate 96 false
    tailSat := Vector.replicate 16 false }

/-- A block begins and takes its block-start values (R21). -/
def openBlock (s : State) : State :=
  s.setMix { s.mix with block := some (freshBlock (blockStart s)), opening := false }

/-! ### The ends -/

/-- The fade record reaches 0 (R60). -/
def fadeEnds (s : State) : State :=
  let t := s.setStager { s.stager with fade := { s.stager.fade with remaining := 0, counting := false } }
  progressOccasion (raise .stager .fade t)

/-- A pickup enters SILENT (R122). -/
def silenceEnds (p : Fin 32) (s : State) : State :=
  raise .supervisor .pickup (s.setSup (s.sup.setPickup p s.sup.pickups[p].goSilent))

/-- What one due end does. -/
def dueEffect (d : Due) (s : State) : State :=
  match d with
  | .ramp k => s.setTable (updateEntry k Entry.landRamp s.table)
  | .removal k => s.setTable (removeEntry k s.table)
  | .dipLow k => s.setTable (updateEntry k Entry.lowPoint s.table)
  | .dipUp k => s.setTable (updateEntry k Entry.upEnd s.table)
  | .fade => fadeEnds s
  | .silence p => silenceEnds p s
  | .ringHold p => s.setSup (s.sup.setPickup p s.sup.pickups[p].endHold)
  | .meter => meterExpiry s
  | .holdoff => s.setCue { s.cue with counter := 0 }

/-- One due end is taken as a step of its own; where it is not due nothing happens. -/
def takeDue (d : Due) (s : State) : State :=
  if d ∈ s.due then dueEffect d (s.setDue (s.due.erase d)) else s

/-- Every due end is taken, in the order the block end listed them. -/
def takeAllDue (s : State) : State := s.due.foldl (fun t d => dueEffect d t) (s.setDue [])

/-- The block end is wholly taken: every end due, the end of STOPPING where its condition holds (R87), and the opening of the
next block (R90). DESIGN CHOICE, unsafe: at the block end that ends STOPPING the ends due are taken before the engine enters STOPPED,
so the progress record of a FADE due at it carries STOPPING (R60, R87): assumption log 44. -/
def settle (s : State) : State :=
  let t := finishStopping (takeAllDue s)
  if t.mix.opening then openBlock t else t

/-- The block end is taken but for an expiry of the meter interval, which stays due: a SNAPSHOT card may come before it (R150;
assumption log 38). -/
def settleButMeter (s : State) : State :=
  (settle (s.setDue (s.due.filter (· ≠ .meter)))).setDue (s.due.filter (· = .meter))

end Sys2Proof.Machine
end

