-- ==== Sys2Proof/Machine/Mix.lean ====
section
/-! DEFINITION. The mix engine: SAMPLE_COMPUTATION, BLOCK_END, the clock, the lanes, and the ends that are steps of the ramp
unit (chapter 5, R16, R69, R72, R73). -/

namespace Sys2Proof.Machine

/-! ### Lanes (R93, R94) -/

/-- The lane that carries a pickup: lane L, channel j, carries P(8L + j) (R93). -/
def laneOf (p : Fin 32) : Fin 4 := ⟨p.val / 8, by omega⟩

/-- The emitter that an output lane's channel carries: lane K, channel j, carries E(16K + j) (R94). -/
def laneEmitter (lane : Fin 6) (channel : Fin 16) : Fin 96 := ⟨16 * lane.val + channel.val, by omega⟩

/-- The six output lanes of 16 channels, each a 24-bit sample; none while no frame is sent (R94). -/
def Mix.outputLanes (m : Mix) : Option (Vector (Vector LaneWord 16) 6) :=
  m.lanesOut.map fun f => Vector.ofFn fun k : Fin 6 => Vector.ofFn fun j : Fin 16 => BitVec.ofInt 24 f[laneEmitter k j]

/-- A lane is locked (R93). -/
def Mix.lockLane (l : Fin 4) (m : Mix) : Mix :=
  { m with locks := m.locks.set l true, lockRun := m.lockRun.set l 0 }

/-- A lane is unlocked and its acquisition starts over (R93). -/
def Mix.unlockLane (l : Fin 4) (m : Mix) : Mix :=
  { m with locks := m.locks.set l false, lockRun := m.lockRun.set l 0 }

/-- A lane loses lock with the clock present: FAULT.LANE (R94). -/
def loseLane (l : Fin 4) (s : State) : State := setFault .mix .lane (s.setMix (s.mix.unlockLane l))

/-- A lane's marker has stood at its place in 48 consecutive periods (R93). -/
def Mix.lockReady (m : Mix) (l : Fin 4) : Bool := !m.locks[l] && decide (48 ≤ m.lockRun[l])

/-- One period's judgement of one lane: a lane that has earned its lock has it from this period on; a missing marker unlocks
a locked lane; an unlocked lane counts the periods in which its marker is found (R93). -/
def judgeLane (markers : BitVec 4) (s : State) (l : Fin 4) : State :=
  let t := if s.mix.lockReady l then s.setMix (s.mix.lockLane l) else s
  if t.mix.locks[l] then (if markers.getLsbD l then t else loseLane l t)
  else t.setMix { t.mix with lockRun := t.mix.lockRun.set l (if markers.getLsbD l then min 48 (t.mix.lockRun[l] + 1) else 0) }

/-- The four lanes are judged once per period (R93). -/
def judgeLanes (markers : BitVec 4) (s : State) : State := [0, 1, 2, 3].foldl (judgeLane markers) s

/-! ### The sample computation (R95 to R99) -/

/-- The value a pickup's history takes: the lane's sample while the lane is LOCKED, otherwise 0 (R93, R95). -/
def deliveredSample (m : Mix) (lanes : Vector LaneWord 32) (p : Fin 32) : Int :=
  if m.locks[laneOf p] then lanes[p].toInt else 0

/-- The source sample an entry reads: its source's history at its delay (R95). -/
def sourceSample (m : Mix) (e : MixEntry) : Int :=
  match e.key with
  | .pickupToEmitter p _ => sampleAt m.pickupHist[p] e.delay
  | .tailToEmitter t _ => sampleAt m.tailHist[t] e.delay
  | .pickupToTail p _ => sampleAt m.pickupHist[p] e.delay

/-- The exact sum over the entries that meet a test (R96, R97, R98). -/
def mixSum (m : Mix) (test : Key → Bool) (es : List MixEntry) : Int :=
  ((es.filter fun e => test e.key).map fun e => sourceSample m e * e.gain).sum

/-- The unsaturated input of a tail (R96). -/
def tailInput (m : Mix) (b : BlockStart) (t : Fin 16) : Int :=
  roundSum (mixSum m (fun k => decide (destTail k = some t)) b.entries)

/-- The unsaturated output of a tail from its delay memory; 0 for a tail without a design (R107). -/
def tailOutput (b : BlockStart) (memory : List Int) (t : Fin 16) : Int :=
  match b.designs[t] with
  | none => 0
  | some d => roundSum (tapSum (effectiveTaps b.slots d) memory)

/-- The unsaturated output of an emitter (R97). -/
def emitterOutput (m : Mix) (b : BlockStart) (e : Fin 96) : Int :=
  roundSum (mixSum m (fun k => decide (destEmitter k = some e)) b.entries)

/-- A sample enters a running measure; −8388608 counts as 8388607 in the peak (R99). -/
def Measure.take (x : Int) (m : Measure) : Measure :=
  { peak := max m.peak (min x.natAbs 8388607), squares := m.squares + x.natAbs * x.natAbs }

/-- The engine states in which the emitter channels carry the mix (R97). -/
def EngineState.sounds : EngineState → Bool
  | .running | .stopping => true
  | .loading | .stopped | .starting => false

/-- The pickup histories take this period's samples (R95). -/
def takePickups (lanes : Vector LaneWord 32) (m : Mix) : Mix :=
  { m with pickupHist := Vector.ofFn fun p : Fin 32 => pushSample 4801 (deliveredSample m lanes p) m.pickupHist[p] }

/-- The delay memories take the tail inputs (R96, R106). -/
def takeTailInputs (m : Mix) (b : BlockStart) (k : TailBank) : TailBank :=
  { k with memory := Vector.ofFn fun t : Fin 16 => pushSample 65536 (saturate (tailInput m b t)) k.memory[t] }

/-- The tail histories take the tail outputs (R95, R107). -/
def takeTailOutputs (b : BlockStart) (k : TailBank) (m : Mix) : Mix :=
  { m with tailHist := Vector.ofFn fun t : Fin 16 => pushSample 4801 (saturate (tailOutput b k.memory[t] t)) m.tailHist[t] }

/-- What the emitter channels carry for this sample (R97). -/
def channelFrame (live : Bool) (m : Mix) (b : BlockStart) : Frame :=
  Vector.ofFn fun e : Fin 96 => if live then saturate (emitterOutput m b e) else 0

/-- The block after one more sample: measures and saturation indicators (R96, R97, R99, R100). `before` holds the histories
that formed the tail inputs, `m` those with the tail outputs in. -/
def Block.after (live : Bool) (before m : Mix) (k : TailBank) (frame : Frame) (b : Block) : Block :=
  { b with
    index := b.index + 1
    pickups := Vector.ofFn fun p : Fin 32 => b.pickups[p].take (sampleAt m.pickupHist[p] 0)
    emitters := Vector.ofFn fun e : Fin 96 => b.emitters[e].take frame[e]
    emitterSat := Vector.ofFn fun e : Fin 96 => b.emitterSat[e] || (live && saturates (emitterOutput m b.start e))
    tailSat := Vector.ofFn fun t : Fin 16 =>
      b.tailSat[t] || saturates (tailInput before b.start t) || saturates (tailOutput b.start k.memory[t] t) }

/-- The frame a period sends carries the outputs formed two samples before, or 0 in a state without sound (R94, R97). -/
def Mix.send (live : Bool) (frame : Frame) (m : Mix) : Mix :=
  { m with
    formed := frame
    formedBefore := m.formed
    lanesOut := some (if live then m.formedBefore else Vector.replicate 96 0) }

/-- The three stages of one sample within a block (R96, R97). -/
def computeSample (lanes : Vector LaneWord 32) (b : Block) (s : State) : State :=
  let live := s.engine.state.sounds
  let m1 := takePickups lanes s.mix
  let k := takeTailInputs m1 b.start s.tails
  let m2 := takeTailOutputs b.start k m1
  let frame := channelFrame live m2 b.start
  (s.setTails k).setMix { m2.send live frame with block := some (b.after live m1 m2 k frame) }

/-- Blocks are processed: the engine is not LOADING and the clock is PRESENT (R90). -/
def State.processes (s : State) : Bool := s.mix.clock && decide (s.engine.state ≠ .loading)

/-- One word-clock period: the lanes are judged, the first block begins if none is in progress, and the sample is
computed; nothing after sample 47 until the block end (R90, R93). -/
def samplePeriod (lanes : Vector LaneWord 32) (markers : BitVec 4) (s : State) : State :=
  if s.processes then
    let t := if s.mix.block.isNone then openBlock s else s
    match t.mix.block with
    | none => s
    | some b => if b.index < 48 then computeSample lanes b (judgeLanes markers t) else s
  else s

/-- SAMPLE_COMPUTATION (R96). -/
def execSampleComputation (lanes : Vector LaneWord 32) (markers : BitVec 4) (s : State) : Host.Outcome State Fault Refusal :=
  .next (samplePeriod lanes markers (settle s))

/-! ### The block end (R90) -/

/-- The ramp unit and the mute gains at a block end (R69, R72, R73, R80). -/
def rampsAct (s : State) : State :=
  ((s.setDue (s.due ++ s.table.filterMap Entry.dueEnd)).setTable (s.table.map Entry.advance)).setSup
    (s.sup.moveGains (decide (s.engine.state = .running)))

/-- The scene stager at a block end (R60). -/
def fadeActs (s : State) : State :=
  if s.stager.fade.counting then
    if s.stager.fade.remaining ≤ 1 then s.setDue (s.due ++ [.fade])
    else s.setStager { s.stager with fade := { s.stager.fade with remaining := s.stager.fade.remaining - 1 } }
  else s

/-- The supervisor on one pickup at a block end (R121, R140). -/
def pickupActs (b : Block) (s : State) (i : Fin 32) : State :=
  let m := b.pickups[i].closed
  let r := s.sup.pickups[i].blockEnd (m.peak, m.energy)
  let t := (s.setSup (s.sup.setPickup i r.1)).setDue (s.due ++ (r.2.due i).toList)
  match r.2.notice with
  | some k => raise .supervisor k t
  | none => t

/-- The pickup supervisor at a block end (R121). -/
def pickupsAct (b : Block) (s : State) : State := (List.finRange 32).foldl (pickupActs b) s

/-- The interval length of the root held (R144). -/
def State.meterInterval (s : State) : Nat := (s.root.map Root.meterInterval).getD 0

/-- The meter unit at a block end (R143, R144). -/
def metersAct (b : Block) (s : State) : State :=
  if s.engine.state = .running then
    let t := s.setMeter (s.meter.accumulate b)
    if s.meterInterval = 0 then t.setMeter { t.meter with interval := 0 }
    else if t.meter.interval + 1 = s.meterInterval then t.setDue (t.due ++ [.meter])
    else t.setMeter { t.meter with interval := t.meter.interval + 1 }
  else s

/-- The cue line input at a block end (R156). -/
def holdoffActs (s : State) : State :=
  if s.cue.counter = 0 then s
  else if s.cue.counter = 1 then s.setDue (s.due ++ [.holdoff])
  else s.setCue { s.cue with counter := s.cue.counter - 1 }

/-- Some clip flag was clear and is set by the closed block (R100). -/
def newlyClipped (b : Block) (m : Mix) : Bool :=
  ((List.finRange 96).any fun e => b.emitterSat[e] && !m.emitterClip[e])
    || ((List.finRange 16).any fun t => b.tailSat[t] && !m.tailClip[t])

/-- The clip flags and clip-block counts take the closed block's indicators, and the block is closed (R90, R100). -/
def Mix.close (b : Block) (m : Mix) : Mix :=
  { m with
    emitterClip := Vector.ofFn fun e : Fin 96 => m.emitterClip[e] || b.emitterSat[e]
    tailClip := Vector.ofFn fun t : Fin 16 => m.tailClip[t] || b.tailSat[t]
    clipBlocks := Vector.ofFn fun e : Fin 96 => if b.emitterSat[e] then countTo 65535 m.clipBlocks[e] else m.clipBlocks[e]
    block := none
    opening := true }

/-- The mix engine closes the block (R100). -/
def closeBlock (b : Block) (s : State) : State :=
  let t := s.setMix (s.mix.close b)
  if newlyClipped b s.mix then raise .mix .clip t else t

/-- The units that count in blocks act at a block end, on the measures of the closed block (R90). -/
def blockEnd (b : Block) (s : State) : State :=
  closeBlock b (holdoffActs (metersAct b (pickupsAct b (fadeActs (rampsAct s)))))

/-- The block whose 48 samples have been computed, if one is (R90). -/
def State.fullBlock (s : State) : Option Block :=
  match s.mix.block with
  | some b => if s.processes && decide (48 ≤ b.index) then some b else none
  | none => none

/-- A block end where one can come: after sample 47 (R90). -/
def blockEndStep (s : State) : State :=
  match s.fullBlock with
  | some b => blockEnd b s
  | none => s

/-- BLOCK_END (R90). -/
def execBlockEnd (s : State) : Host.Outcome State Fault Refusal := .next (blockEndStep (settle s))

/-! ### Ends of movements -/

/-- RAMP_END (R69). -/
def execRampEnd (k : Key) (s : State) : Host.Outcome State Fault Refusal := .next (takeDue (.ramp k) s)

/-- ENTRY_REMOVAL (R16). -/
def execEntryRemoval (k : Key) (s : State) : Host.Outcome State Fault Refusal := .next (takeDue (.removal k) s)

/-- DIP_LOW_POINT (R72). -/
def execDipLowPoint (k : Key) (s : State) : Host.Outcome State Fault Refusal := .next (takeDue (.dipLow k) s)

/-- DIP_UP_END (R73). -/
def execDipUpEnd (k : Key) (s : State) : Host.Outcome State Fault Refusal := .next (takeDue (.dipUp k) s)

/-! ### Clock (R89, R91, R92) -/

/-- The frames of the first two periods after a return, which the manual does not state (assumption log 14). -/
def unstatedFrame (n : Nat) : Frame := Vector.ofFn fun e : Fin 96 => (Config.frameAfterReturn n e.val).toInt

/-- The mix engine at a loss of the clock (R91): no frames without a clock, but a LOADING engine's lanes carry 0 (R85; assumption
log 34). -/
def Mix.lose (loading : Bool) (m : Mix) : Mix :=
  { m with
    clock := false
    locks := Vector.replicate 4 false
    lockRun := Vector.replicate 4 0
    block := none
    opening := false
    lanesOut := if loading then some (Vector.replicate 96 0) else none }

/-- The clock is lost (R91): a STOPPING engine whose reader is OFF enters STOPPED (R87). -/
def loseClock (s : State) : State :=
  if s.mix.clock then
    finishStopping (setFault .mix .clock (s.setMix (s.mix.lose (decide (s.engine.state = .loading)))))
  else s

/-- CLOCK_LOSS (R91). -/
def execClockLoss (s : State) : Host.Outcome State Fault Refusal := .next (loseClock (settle s))

/-- The mix engine at a return of the clock (R92), the first after a reset included (R89); `n` numbers the free values that the first
two frames carry. -/
def Mix.restart (n : Nat) (m : Mix) : Mix :=
  { m with
    clock := true
    locks := Vector.replicate 4 false
    lockRun := Vector.replicate 4 0
    pickupHist := Vector.replicate 32 []
    tailHist := Vector.replicate 16 []
    block := none
    opening := false
    formed := unstatedFrame n
    formedBefore := unstatedFrame (n + 1) }

/-- The clock returns (R92). -/
def returnClock (s : State) : State :=
  if s.mix.clock then s
  else silenceEmitters
    (((s.setTails { s.tails with memory := Vector.replicate 16 [] }).setMix (s.mix.restart s.freeIndex)).setFreeIndex
      (s.freeIndex + 2))

/-- CLOCK_RETURN (R92). -/
def execClockReturn (s : State) : Host.Outcome State Fault Refusal := .next (returnClock (settle s))

/-- LANE_LOCK: the lock earned in 48 periods is there (R93). -/
def execLaneLock (l : Fin 4) (s : State) : Host.Outcome State Fault Refusal :=
  let t := settle s
  .next (if t.processes && t.mix.lockReady l then t.setMix (t.mix.lockLane l) else t)

/-- LANE_LOSS: the marker of a locked lane is missing or misplaced in the period that begins (R94). -/
def execLaneLoss (l : Fin 4) (s : State) : Host.Outcome State Fault Refusal :=
  let t := settle s
  .next (if t.mix.clock && t.mix.locks[l] then loseLane l t else t)

end Sys2Proof.Machine
end

