-- ==== Sys2Proof/Machine/Run.lean ====
section
/-! DEFINITION. Resets, the registers, run control and the root record (R84 to R88, R160 to R163, R165, R171, R182). -/

namespace Sys2Proof.Machine

/-! ### Resets (R88 and each unit's own reset rule) -/

/-- The registers after a reset: FAULT is cleared by a power-on reset and kept by the others (R88, R160, R162). -/
def Regs.afterReset (powerOn : Bool) (r : Regs) : Regs :=
  { exchangeLow := 0, exchangeHigh := 0, fault := if powerOn then 0 else r.fault }

/-- The supervisor after a reset; the ring groups stand until the load installs them (R81, R119, R141). -/
def Supervisor.afterReset (u : Supervisor) : Supervisor :=
  { pickups := u.pickups.map fun p => Pickup.afterReset p.ring
    emitterFlag := Vector.replicate 96 false
    emitterGain := Vector.replicate 96 0 }

/-- The transfer of a notice write (R181). -/
def NoticeWrite.transfer (w : NoticeWrite) : Transfer := { addr := w.addr, bytes := leBytes 4 w.data }

/-- The notice write must follow the progress write in flight, which its raising unit issued before it (R181). -/
def waitsForProgress (s : State) (w : NoticeWrite) : Bool :=
  match w.raising.after with
  | none => false
  | some q => s.progress.inFlight.isSome && decide (s.progress.seq = q)

/-- The notice write must follow the completion of a long card in flight, which its raising unit issued before it (R168, R181). -/
def waitsForLong (s : State) (w : NoticeWrite) : Bool := w.raising.longs.any s.reader.completes

/-- The notice write must wait: a write that its raising unit issued before it is in flight (R181; assumption log 18). -/
def noticeWaits (s : State) (w : NoticeWrite) : Bool := waitsForProgress s w || waitsForLong s w

/-- A progress record write in flight at a reset reaches host memory where a notice write handed over must follow it (R181, R183);
otherwise the manual does not say whether it does (assumption log 36). -/
def progressLands (s : State) : Bool :=
  s.notice.handed.any (waitsForProgress s) || Config.progressLandsAtReset s.freeIndex

/-- What becomes of a progress record write in flight at a reset. -/
def landProgress (s : State) : State :=
  match s.progress.inFlight with
  | none => s
  | some x => (if progressLands s then land x s else s).setFreeIndex (s.freeIndex + 1)

/-- A notice write already handed to the link port before a reset reaches host memory (R183); where it was to follow the completion
of a long card, that card stays TAKEN all the same, and none of its completion's writes lands (R168; assumption log 42). -/
def landHanded (s : State) : State :=
  match s.notice.handed with
  | none => s
  | some w => land w.transfer s

/-- Every unit takes its reset values and the store begins its load (R26, R35, R66, R88, R104, R106, R141, R151, R152, R163, R171,
R172, R183, R192). Ceilings, patch slots, ring groups, the protection state with its code, and the fuse and the flash stand: the
load installs the first four (R192), and the last two outlast a reset (R184, R189). -/
def resetUnits (powerOn : Bool) (s : State) : State :=
  { hostMem := s.hostMem
    regs := s.regs.afterReset powerOn
    root := none
    progress := .afterReset
    engine := { state := .loading, run := false, startAddr := 0 }
    reader := .afterReset
    stager := .afterReset
    table := []
    budget := { s.budget with clamped := Vector.replicate 96 false }
    mix := .afterReset
    tails := { s.tails with designs := Vector.replicate 16 none, memory := Vector.replicate 16 [] }
    sup := s.sup.afterReset
    meter := .afterReset
    cue := .afterReset
    notice := .afterReset
    prot := { s.prot with wrong := 0 }
    store := { s.store with state := .loading }
    due := []
    freeIndex := s.freeIndex
    pending := s.pending }

/-- A reset, whatever the engine state and whatever is in flight (R88): a notice write handed over lands after the progress write it
follows (R181, R183). DESIGN CHOICE, unsafe: a meter page transfer in flight ends with none of its bytes in host memory, where R148
speaks only of further writes, and so does a transfer of report entries, where R25 does (assumption log 50). A card's slot stays as
the last completed write left it, which R171 states. -/
def resetAll (powerOn : Bool) (s : State) : State := resetUnits powerOn (landHanded (landProgress s))

/-- POWER_ON_RESET (R88). -/
def execPowerOnReset (s : State) : Host.Outcome State Fault Refusal := .next (resetAll true (settle s))

/-- LINK_RESET: the same effect as an engine reset (R88). -/
def execLinkReset (s : State) : Host.Outcome State Fault Refusal := .next (resetAll false (settle s))

/-- ENGINE_RESET (R88). -/
def execEngineReset (s : State) : Host.Outcome State Fault Refusal := .next (resetAll false (settle s))

/-! ### Run control (R86, R87) -/

/-- The reader at a stop (R171): IDLE and HALTED go OFF at once; SWEEPING goes OFF at once with no card in hand, and otherwise
when its card is done. DESIGN CHOICE, unsafe: with no card in hand a slot read in flight is dropped, so its end finds the reader OFF
and is ignored, and its failure sets no FAULT.MEMORY (R170): assumption log 46. -/
def stopReader (s : State) : State :=
  match s.reader.state with
  | .off => s
  | .idle | .halted => s.setReader { s.reader with state := .off, again := false }
  | .sweeping => if s.reader.hand.isSome then s else readerOff s

/-- The engine enters STOPPING; with the clock absent every emitter mute gain is set to 0 (R81, R87). -/
def enterStopping (s : State) : State :=
  let t := stopReader (s.setEngine { s.engine with state := .stopping, run := false })
  finishStopping (if t.mix.clock then t else silenceEmitters t)

/-- The RUN field is written 1 (R84 to R87). -/
def writeRun1 (s : State) : State :=
  match s.engine.state with
  | .loading | .running => s
  | .stopped => if s.engine.run then s else beginStart s
  | .starting | .stopping => s.setEngine { s.engine with run := true }

/-- The RUN field is written 0 (R84 to R87). -/
def writeRun0 (s : State) : State :=
  match s.engine.state with
  | .loading => s
  | .running => enterStopping s
  | .stopped | .starting | .stopping => s.setEngine { s.engine with run := false }

/-- RUN_START (R86). -/
def execRunStart (s : State) : Host.Outcome State Fault Refusal := .next (writeRun1 (settle s))

/-- RUN_STOP (R87). -/
def execRunStop (s : State) : Host.Outcome State Fault Refusal := .next (writeRun0 (settle s))

/-- STOPPING_END (R87). -/
def execStoppingEnd (s : State) : Host.Outcome State Fault Refusal := .next (finishStopping (settle s))

/-! ### The other fields of CONTROL (R161, R165, R182) -/

/-- The NOTICE ENABLE field is written; while LOADING it keeps its reset value (R85, R182). -/
def writeNoticeEnable (on : Bool) (s : State) : State :=
  if s.engine.state = .loading then s else s.setNotice (s.notice.writeEnable on)

/-- The VECTOR COUNT field is written; while LOADING it keeps its reset value (R85, R182). -/
def writeVectorCount (code : BitVec 2) (s : State) : State :=
  if s.engine.state = .loading then s else s.setNotice { s.notice with vectorCode := code }

/-- SWEEP NOW is written 1 (R165). -/
def sweepNow (s : State) : State :=
  match s.reader.state with
  | .off => s
  | .idle | .halted => beginSweep s
  | .sweeping => s.setReader { s.reader with again := true }

/-- NOTICE_ENABLE (R182). -/
def execNoticeEnable (on : Bool) (s : State) : Host.Outcome State Fault Refusal := .next (writeNoticeEnable on (settle s))

/-- VECTOR_COUNT (R182). -/
def execVectorCount (code : BitVec 2) (s : State) : Host.Outcome State Fault Refusal :=
  .next (writeVectorCount code (settle s))

/-- SWEEP_NOW (R165). -/
def execSweepNow (s : State) : Host.Outcome State Fault Refusal := .next (sweepNow (settle s))

/-- NOTICE MASK is written (R182). -/
def writeNoticeMask (w : Word) (s : State) : State := s.setNotice (s.notice.writeMask s.root w)

/-- FAULT is written (R162). -/
def writeFault (w : Word) (s : State) : State := s.setRegs (s.regs.clearFault w)

/-- NOTICE_MASK_WRITE (R182). -/
def execNoticeMaskWrite (w : Word) (s : State) : Host.Outcome State Fault Refusal := .next (writeNoticeMask w (settle s))

/-- FAULT_CLEAR (R162). -/
def execFaultClear (w : Word) (s : State) : Host.Outcome State Fault Refusal := .next (writeFault w (settle s))

/-- A write of CONTROL acts on all of its fields together; with ENGINE RESET 1 the reset acts and every other field is
disregarded (R161; assumption log 7). -/
def writeControl (w : Word) (s : State) : State :=
  if w.getLsbD 1 then resetAll false s
  else
    let t := writeVectorCount (w.extractLsb' 4 2) (writeNoticeEnable (w.getLsbD 2) s)
    let u := if w.getLsbD 0 then writeRun1 t else writeRun0 t
    if w.getLsbD 8 then sweepNow u else u

/-- EXCHANGE LOW with bits 5:0 read as 0 (R160). -/
def maskLow (w : Word) : Word := w &&& 0xFFFFFFC0#32

/-- A write in the register window (R160): a whole word at a register's offset acts on the register; a narrower access, a
read-only register and an unused offset drop it. -/
def writeRegister (offset : Nat) (width : AccessWidth) (w : Word) (s : State) : State :=
  if width ≠ .word then s
  else if offset = 0x04 then writeControl w s
  else if offset = 0x0C then s.setRegs { s.regs with exchangeLow := maskLow w }
  else if offset = 0x10 then s.setRegs { s.regs with exchangeHigh := w }
  else if offset = 0x14 then writeNoticeMask w s
  else if offset = 0x18 then writeFault w s
  else s

/-- REGISTER_WRITE (R160). -/
def execRegisterWrite (offset : Nat) (width : AccessWidth) (w : Word) (s : State) : Host.Outcome State Fault Refusal :=
  .next (writeRegister offset width w (settle s))

/-! ### What a read of a register returns (R160, R161) -/

/-- CONTROL as it reads (R161). -/
def controlValue (s : State) : Nat :=
  s.engine.run.toNat + 4 * s.notice.enable.toNat + 16 * s.notice.vectorCode.toNat

/-- STATUS as it stands at the read (R161). -/
def statusValue (s : State) : Nat :=
  s.engine.state.code + 16 * s.reader.state.code + 64 * s.store.state.code + 256 * s.mix.clock.toNat
    + 512 * flagsNat s.mix.locks.toList + 65536 * flagsNat (s.notice.pending.toList.map Option.isSome) + 16777216 * 2

/-- The registers, once a block end is wholly taken; an unused offset and a narrow access return 0 (R160). -/
def readRegister (offset : Nat) (width : AccessWidth) (before : State) : Word :=
  let s := settle before
  if width ≠ .word then 0
  else if offset = 0x00 then 0x56A33296
  else if offset = 0x04 then BitVec.ofNat 32 (controlValue s)
  else if offset = 0x08 then BitVec.ofNat 32 (statusValue s)
  else if offset = 0x0C then s.regs.exchangeLow
  else if offset = 0x10 then s.regs.exchangeHigh
  else if offset = 0x14 then s.notice.mask.setWidth 32
  else if offset = 0x18 then s.regs.fault.setWidth 32
  else 0

/-! ### The root record (R163) -/

/-- The root's values take effect as the engine enters RUNNING: the reader enters IDLE with NEXT TAG, scan position and flag set,
the interval counter is 0, and pending unmasked vectors are posted (R144, R163, R165, R180). -/
def enterRunning (r : Root) (s : State) : State :=
  let t := s.setEngine { s.engine with state := .running }
  let u := (t.setRoot (some r)).setReader { t.reader with
    state := .idle, nextTag := r.firstTag, scanPos := 0, streak := 0, again := false, finished := false, hand := none }
  let v := u.setMeter { u.meter with interval := 0 }
  v.setNotice (v.notice.flush (some r))

/-- A failed read or an invalid root: no root is held, RUN is cleared, the engine enters STOPPED and FAULT.ROOT is set
(R86, R163). -/
def failStart (s : State) : State :=
  setFault .linkPort .root ((s.setRoot none).setEngine { s.engine with state := .stopped, run := false })

/-- The root read ends (R86, R163). -/
def rootRead (data : LinkRead 64) (s : State) : State :=
  if s.engine.state = .starting then
    match Root.ofRead s.engine.startAddr data with
    | none => failStart s
    | some r => if s.engine.run then enterRunning r s else s.setEngine { s.engine with state := .stopped }
  else s

/-- ROOT_READ_END (R163). -/
def execRootReadEnd (data : LinkRead 64) (s : State) : Host.Outcome State Fault Refusal := .next (rootRead data (settle s))

/-! ### Progress and notice writes (R172, R181) -/

/-- A progress record write ends (R172). Where it fails and occasions were noted during it, FAULT is raised before the further write
begins, so that its notice does not wait for the further record: R172 gives no order (DESIGN CHOICE, assumption log 40). DESIGN
CHOICE, unsafe: where the root held at a noted occasion has been discarded since (R163), no further write begins, since no root is
held: assumption log 48. -/
def progressEnded (ok : Bool) (s : State) : State :=
  match s.progress.inFlight with
  | none => s
  | some t =>
    let u := (if ok then land t s else s).setProgress { s.progress with inFlight := none, again := false }
    let v := if ok then u else setFault .linkPort .memory u
    if s.progress.again then progressOccasion v else v

/-- PROGRESS_WRITE_END (R172). -/
def execProgressWriteEnd (ok : Bool) (s : State) : Host.Outcome State Fault Refusal := .next (progressEnded ok (settle s))

/-- A failed notice write: its notice is lost and FAULT.MEMORY is set; FAULT is not raised again for a FAULT notice (R181).
DESIGN CHOICE, unsafe: the notice unit raises this FAULT, not the link port, so its notice waits for no progress record write and no
completion of a long card: assumption log 49. -/
def noticeFailed (w : NoticeWrite) (s : State) : State :=
  if w.raising.kind = .fault then markFault .memory s else setFault .notice .memory s

/-- A notice write ends and the queue goes on (R181). -/
def noticeEnded (ok : Bool) (s : State) : State :=
  match s.notice.handed with
  | none => s
  | some w =>
    if noticeWaits s w then s
    else
      let t := s.setNotice s.notice.ended
      let u := if ok then land w.transfer t else noticeFailed w t
      u.setNotice (u.notice.goOn u.root)

/-- NOTICE_WRITE_END (R181). -/
def execNoticeWriteEnd (ok : Bool) (s : State) : Host.Outcome State Fault Refusal := .next (noticeEnded ok (settle s))

end Sys2Proof.Machine
end

