-- ==== Sys2Proof/Machine/Reader.lean ====
section
/-! DEFINITION. The card reader: sweeps, slot reads, item lists, its writes to slots and long cards (R164 to R171). -/

namespace Sys2Proof.Machine

/-! ### Sweeps -/

/-- SWEEP_TIMER_EXPIRY: the timer runs in IDLE only (R165). -/
def execSweepTimerExpiry (s : State) : Host.Outcome State Fault Refusal :=
  let t := settle s
  .next (if t.reader.state = .idle then beginSweep t else t)

/-- The sweep has read slot count slots in a row without taking a card (R169). -/
def sweepDone (s : State) : Bool :=
  decide (s.reader.state = .sweeping) && s.reader.hand.isNone && decide (s.slotCount ≤ s.reader.streak)

/-- The end of a sweep (R169). -/
def endSweep (s : State) : State :=
  let t := if s.reader.finished then progressOccasion s else s
  if t.reader.again then beginSweep (t.setReader { t.reader with again := false })
  else t.setReader { t.reader with state := .idle, finished := false }

/-- SWEEP_END (R169). -/
def execSweepEnd (s : State) : Host.Outcome State Fault Refusal :=
  let t := settle s
  .next (if sweepDone t then endSweep t else t)

/-! ### Slot reads (R166) -/

/-- The slot at the scan is passed without a take. -/
def passSlot (s : State) : State := s.setReader { s.reader with streak := s.reader.streak + 1 }

/-- The reader waits for the read of a slot: it is sweeping with no card in hand and the sweep not at its end. -/
def slotReadInFlight (s : State) : Bool :=
  decide (s.reader.state = .sweeping) && s.reader.hand.isNone && decide (s.reader.streak < s.slotCount)

/-- How far a tag lies ahead of NEXT TAG, modulo 65536 (R166). -/
def tagDifference (tag next : Nat) : Nat := (tag + 65536 - next) % 65536

/-- A card that lies behind: it is completed FAILED with STALE_TAG, and no unit acts on it (R166, R167). -/
def staleCard (h : Hand) (s : State) : State := complete h (refusedWhole .staleTag h s) s

/-- The read of a slot of the root's card table ends with its bytes (R164, R166). -/
def slotBytes (r : Root) (v : Vector Byte 64) (s : State) : State :=
  let slot := s.scanSlot
  let addr := r.cardTable + 64 * slot
  if slotIssued v.toList then
    let d := tagDifference (slotTag v.toList) s.reader.nextTag
    if d = 0 then setHand (Hand.ofBytes slot addr v false .taking) s
    else if d < 32768 then passSlot s
    else staleCard (Hand.ofBytes slot addr v true .taking) s
  else passSlot s

/-- The read of a slot ends (R166, R170). -/
def slotReadEnds (data : LinkRead 64) (s : State) : State :=
  if slotReadInFlight s then
    match data, s.root with
    | some v, some r => slotBytes r v s
    | none, _ => haltReader s
    | some _, none => s
  else s

/-- SLOT_READ (R166). -/
def execSlotRead (data : LinkRead 64) (s : State) : Host.Outcome State Fault Refusal := .next (slotReadEnds data (settle s))

/-! ### The reader's writes (R167, R170) -/

/-- The card whose TAKEN has been written goes to its list read, its unit, or its completion (R164, R167 steps 2 and 3).
DESIGN CHOICE, unsafe: a CEILINGS card completed here BAD_FIELD returns the clamp flags that stand now (R167), not those that stood
when it was taken (R35): assumption log 43. -/
def dispatchCard (h : Hand) (s : State) : State :=
  match h.kind with
  | none => complete h (refusedWhole .badKind h s) s
  | some k =>
    match k.itemSize with
    | none => setHand { h with phase := .acting [] } s
    | some n =>
      if h.listAddr % 8 = 0 then setHand { h with phase := .listing [] (h.count * n) } s
      else complete h (refusedWhole .badField h s) s

/-- The card's final state has been written (R166, R167 steps 5 to 7). -/
def cardWritten (h : Hand) (s : State) : State :=
  let t := if h.stale then (passSlot s).setReader { (passSlot s).reader with hand := none } else passCard h s
  let u := t.setReader { t.reader with finished := true }
  afterCard (countFinished .reader h.notify u)

/-- A write between the reader and a slot fails: a card taken is abandoned and passed, a stale one leaves NEXT TAG and the scan
position (R170). -/
def writeFails (h : Hand) (s : State) : State := haltReader (if h.stale then s else passCard h s)

/-- A write of TAKEN lands. -/
def takenTransfer (h : Hand) : Transfer := { addr := h.addr, bytes := [2] }

/-- The reader's write in flight ends (R167, R170). -/
def cardWriteEnds (ok : Bool) (s : State) : State :=
  match s.reader.hand with
  | none => s
  | some h =>
    match h.phase with
    | .taking => if ok then dispatchCard h (land (takenTransfer h) s) else writeFails h s
    | .completing (t :: ts) =>
      if ok then
        if ts.isEmpty then cardWritten h (land t s) else setHand { h with phase := .completing ts } (land t s)
      else writeFails h s
    | .completing [] | .listing _ _ | .acting _ | .blowing | .reporting _ _ _ _ _ => s

/-- CARD_WRITE_END (R170). -/
def execCardWriteEnd (ok : Bool) (s : State) : Host.Outcome State Fault Refusal := .next (cardWriteEnds ok (settle s))

/-! ### Item lists (R167 step 2) -/

/-- A transfer of the item list ends: 256 bytes, or the rest, join the list, or the card fails LINK (R167; that every transfer but
the last brings 256 is the model's choice: assumption log 31). DESIGN CHOICE, unsafe: a card that fails so returns the values that
stand when its completion begins (R167), the clamp flags of a CEILINGS card included, which R35 has as they stood when it was taken:
assumption log 43. -/
def itemListEnds (data : LinkRead 256) (s : State) : State :=
  match s.reader.hand with
  | none => s
  | some h =>
    match h.phase with
    | .listing got left =>
      match data with
      | none => complete h (refusedWhole .link h s) s
      | some v =>
        let more := got ++ v.toList.take left
        if left ≤ 256 then setHand { h with phase := .acting more } s
        else setHand { h with phase := .listing more (left - 256) } s
    | .taking | .completing _ | .acting _ | .blowing | .reporting _ _ _ _ _ => s

/-- ITEM_LIST_READ (R167). -/
def execItemListRead (data : LinkRead 256) (s : State) : Host.Outcome State Fault Refusal :=
  .next (itemListEnds data (settle s))

/-! ### Long cards (R168) -/

/-- A card becomes a long card: its slot address is recorded and the reader moves on (R168). -/
def keepLong (k : LongKind) (h : Hand) (s : State) : State :=
  let t := s.setReader (s.reader.setLong k (some { addr := h.addr, notify := h.notify, outcome := none }))
  afterCard (passCard h t)

/-- The action of a long card ends: the write of its completion begins (R168). -/
def endLong (k : LongKind) (c : Completion) (s : State) : State :=
  match s.reader.longCard k with
  | none => s
  | some l => s.setReader (s.reader.setLong k (some { l with outcome := some c }))

/-- Transfers land one after another. -/
def landAll (ts : List Transfer) (s : State) : State := ts.foldl (fun s t => land t s) s

/-- A long card leaves the list, and no notice follows its completion any longer (R168, R181). -/
def dropLong (k : LongKind) (s : State) : State :=
  (s.setReader (s.reader.setLong k none)).setNotice (s.notice.longDone k)

/-- The completion writes of a long card end (R168): all of them land, or those before the failing one do. DESIGN CHOICE, unsafe: a
card that finishes here during a sweep does not make it one that finished a card, so `finished` stands and the end of the sweep
writes no record for it (R169): assumption log 45. -/
def longEnds (k : LongKind) (failAt : Option Nat) (s : State) : State :=
  match s.reader.longCard k with
  | none => s
  | some l =>
    match l.outcome with
    | none => s
    | some c =>
      let ts := completionTransfers l.addr c
      match failAt with
      | some i =>
        if i < ts.length then setFault .linkPort .memory (dropLong k (landAll (ts.take i) s))
        else progressOccasion (countFinished .linkPort l.notify (dropLong k (landAll ts s)))
      | none => progressOccasion (countFinished .linkPort l.notify (dropLong k (landAll ts s)))

/-- LONG_CARD_COMPLETION (R168). -/
def execLongCardCompletion (k : LongKind) (failAt : Option Nat) (s : State) : Host.Outcome State Fault Refusal :=
  .next (longEnds k failAt (settle s))

end Sys2Proof.Machine
end

