-- ==== Sys2Proof/Machine/Scenes.lean ====
section
/-! DEFINITION. The cards of the scene stager and the line GO: STAGE, STANDBY, DROP STANDBY, GO, LINE_GO, and the end of the
fade record (chapter 3). -/

namespace Sys2Proof.Machine

/-! ### STAGE (R46 to R48) -/

/-- The path items of a card. -/
def pathItems (h : Hand) (items : List Byte) : List PathItem := (itemsOf 8 h.count items).map PathItem.ofBytes

/-- A STAGE card in EMPTY or BUILDING (R47, R48). -/
def stageItems (h : Hand) (items : List PathItem) (s : State) : State :=
  let r := applyItems stageItem 0 items (s.stager.standby.items, 0)
  let t := s.setStager { s.stager with standby := stagedState s.stager.standby r.1.1 }
  complete h (itemCompletion h.count (detailCount r.1.2) r.2 (standbyReturn 24 t)) t

/-- The scene stager acts on a STAGE card (R46). -/
def stageCard (h : Hand) (items : List Byte) (s : State) : State :=
  match s.stager.standby with
  | .ready _ _ => complete h (refusedWhole .standbyReady h s) s
  | .empty | .building _ => stageItems h (pathItems h items) s

/-- STAGE (R47). -/
def execStage (s : State) : Host.Outcome State Fault Refusal :=
  let t := settle s
  match t.actingOn .stage with
  | some (h, items) => .next (stageCard h items t)
  | none => .next t

/-! ### STANDBY (R49) -/

/-- The largest fade (R49). -/
def maxFade : Nat := 60000

/-- The header a STANDBY card's arguments ask for, or its failure (R49). -/
def standbyHeader (h : Hand) : Except Result Header :=
  if h.arg 24 2 = 0 then .error .range
  else if 1 < h.arg 26 1 then .error .badField
  else .ok { cue := h.arg 24 2, fade := min maxFade (h.arg 28 4), mode := if h.arg 26 1 = 0 then .replace else .amend }

/-- A completion with remaining 0 (cards without items). -/
def plainCompletion (r : Result) (detail : Nat) (returns : List (Nat × List Byte)) : Completion :=
  { result := r, remaining := 0, detail := detail, returns := returns }

/-- The scene stager acts on a STANDBY card (R49). -/
def standbyCard (h : Hand) (s : State) : State :=
  match s.stager.standby with
  | .ready _ _ => complete h (plainCompletion .standbyReady 0 (standbyReturn 32 s)) s
  | .empty | .building _ =>
    match standbyHeader h with
    | .error r => complete h (plainCompletion r 0 (standbyReturn 32 s)) s
    | .ok hd =>
      let t := s.setStager { s.stager with standby := .ready s.stager.standby.items hd }
      complete h (plainCompletion .ok (if maxFade < h.arg 28 4 then 1 else 0) (standbyReturn 32 t)) t

/-- STANDBY (R49). -/
def execStandby (s : State) : Host.Outcome State Fault Refusal :=
  let t := settle s
  match t.actingOn .standby with
  | some (h, _) => .next (standbyCard h t)
  | none => .next t

/-! ### DROP STANDBY (R50) -/

/-- The scene stager acts on a DROP STANDBY card (R50). -/
def dropCard (h : Hand) (s : State) : State :=
  complete h (plainCompletion .ok 0 (dropReturn s.stager.standby.items.length))
    (s.setStager { s.stager with standby := .empty })

/-- DROP_STANDBY (R50). -/
def execDropStandby (s : State) : Host.Outcome State Fault Refusal :=
  let t := settle s
  match t.actingOn .dropStandby with
  | some (h, _) => .next (dropCard h t)
  | none => .next t

/-! ### GO (R51 to R62) -/

/-- The detail of a GO card: the destination code a DEST_FULL names (R54). -/
def goDetail (o : GoOutcome) : Nat := if o.result = .destFull then o.dest else 0

/-- The scene stager acts on a GO card (R52, R54, R62). -/
def goCard (h : Hand) (s : State) : State :=
  let r := takeGo .card s
  complete h (plainCompletion r.2.result (goDetail r.2) (goReturn r.2.executed r.2.created r.1)) r.1

/-- GO (R62). -/
def execGo (s : State) : Host.Outcome State Fault Refusal :=
  let t := settle s
  match t.actingOn .go with
  | some (h, _) => .next (goCard h t)
  | none => .next t

/-- The scene stager takes a line GO handed to it, in every engine state after LOADING (R51, R157). -/
def takeLineGo (s : State) : State :=
  (takeGo .line (s.setStager { s.stager with lineGos := s.stager.lineGos - 1 })).1

/-- LINE_GO (R51). -/
def execLineGo (s : State) : Host.Outcome State Fault Refusal :=
  let t := settle s
  .next (if 0 < t.stager.lineGos ∧ t.engine.state ≠ .loading then takeLineGo t else t)

/-- FADE_END (R60). -/
def execFadeEnd (s : State) : Host.Outcome State Fault Refusal := .next (takeDue .fade s)

end Sys2Proof.Machine
end

