-- ==== Sys2Proof/Machine/CeilingsCard.lean ====
section
/-! DEFINITION. The CEILINGS card (R37 to R41). -/

namespace Sys2Proof.Machine

/-- A protected item may not change in LOCKED and FIXED (R184, R188). -/
def ProtState.guards : ProtState → Bool
  | .locked | .isFixed => true
  | .none | .opened => false

/-- One ceiling item on the ceilings and the recompute set (R38). -/
def ceilingItem (p : ProtState) (x : Vector Nat 96 × Vector Bool 96) (i : CeilingItem) :
    Except Result (Vector Nat 96 × Vector Bool 96) :=
  if h : i.emitter < 96 then
    if p.guards ∧ i.ceiling ≠ x.1[i.emitter] then .error .isProtected
    else .ok (x.1.set i.emitter i.ceiling, x.2.set i.emitter true)
  else .error .range

/-- The table after the emitters of the recompute set are recomputed and their entries handed the ceiling fade (R39, R40). -/
def recomputedTable (b : Budget) (chosen : Fin 96 → Bool) (fade : Nat) (table : List Entry) : List Entry :=
  (emitterStage b.ceilings chosen table).map fun e =>
    match destEmitter e.key with
    | some em => if chosen em then ceilingMovement fade e else e
    | none => e

/-- The ceiling writes, the recomputation and the handing over, in one action (R38 to R40). -/
def applyCeilings (ceilings : Vector Nat 96) (chosen : Vector Bool 96) (fade : Nat) (s : State) : State :=
  let b := { s.budget with ceilings := ceilings }
  let pick : Fin 96 → Bool := fun e => chosen[e]
  (s.setTable (recomputedTable b pick fade s.table)).setBudget { b with clamped := clampStage b pick s.table }

/-- The budget unit acts on a CEILINGS card (R37 to R41). -/
def ceilingsCard (h : Hand) (items : List Byte) (s : State) : State :=
  let r := applyItems (ceilingItem s.prot.state) 0 ((itemsOf 4 h.count items).map CeilingItem.ofBytes)
    (s.budget.ceilings, Vector.replicate 96 false)
  let t := applyCeilings r.1.1 r.1.2 (min maxFade (h.arg 24 4)) s
  complete h (itemCompletion h.count (if maxFade < h.arg 24 4 then 1 else 0) r.2 (ceilingsReturn t)) t

/-- CEILINGS (R38). -/
def execCeilings (s : State) : Host.Outcome State Fault Refusal :=
  let t := settle s
  match t.actingOn .ceilings with
  | some (h, items) => .next (ceilingsCard h items t)
  | none => .next t

end Sys2Proof.Machine
end

