-- ==== Sys2Proof/Machine/TailCards.lean ====
section
/-! DEFINITION. The TAILS and PATCHES cards (R111 to R116). -/

namespace Sys2Proof.Machine

/-- The design a design code names: some design, `some none` for 255, `none` for a code out of range (R112). -/
def designOfCode (c : Nat) : Option (Option (Fin 40)) :=
  if h : c < 40 then some (some ⟨c, h⟩) else if c = 255 then some none else none

/-- One tail item on the designs (R112). -/
def tailItem (table : List Entry) (ds : Vector (Option (Fin 40)) 16) (i : TailItem) :
    Except Result (Vector (Option (Fin 40)) 16) :=
  if h : i.tail < 16 then
    match designOfCode i.design with
    | none => .error .range
    | some d =>
      if ds[i.tail] = d then .ok ds
      else if sounding table ⟨i.tail, h⟩ then .error .tailBusy
      else .ok (ds.set i.tail d)
  else .error .range

/-- The tail bank acts on a TAILS card (R112, R113). -/
def tailsCard (h : Hand) (items : List Byte) (s : State) : State :=
  let r := applyItems (tailItem s.table) 0 ((itemsOf 2 h.count items).map TailItem.ofBytes) s.tails.designs
  let t := s.setTails { s.tails with designs := r.1 }
  complete h (itemCompletion h.count 0 r.2 (tailsReturn (soundingSet s.table) t)) t

/-- TAILS (R112). -/
def execTails (s : State) : Host.Outcome State Fault Refusal :=
  let t := settle s
  match t.actingOn .tails with
  | some (h, items) => .next (tailsCard h items t)
  | none => .next t

/-- The new content of a patch item, or the failure of its action, slot or range check (R115). -/
def patchContent (i : PatchItem) : Except Result (Option Patch) :=
  if 1 < i.action then .error .badField
  else if 8 ≤ i.slot then .error .range
  else if i.action = 0 then .ok none
  else if h : i.design < 40 then
    if i.delay = 0 then .error .range
    else .ok (some { design := ⟨i.design, h⟩, tap := i.tap, delay := i.delay, gain := i.gain })
  else .error .range

/-- A design that a content names is in use by a sounding tail (R110, R115). -/
def contentSounds (table : List Entry) (ds : Vector (Option (Fin 40)) 16) (o : Option Patch) : Bool :=
  match o with
  | some p => designSounds table ds p.design
  | none => false

/-- One patch item on the slots (R115). -/
def patchItem (p : ProtState) (table : List Entry) (ds : Vector (Option (Fin 40)) 16)
    (slots : Vector (Option Patch) 8) (i : PatchItem) : Except Result (Vector (Option Patch) 8) :=
  match patchContent i with
  | .error r => .error r
  | .ok new =>
    if h : i.slot < 8 then
      if slots[i.slot] = new then .ok slots
      else if p.guards then .error .isProtected
      else if contentSounds table ds slots[i.slot] || contentSounds table ds new then .error .tailBusy
      else .ok (slots.set i.slot new)
    else .error .range

/-- The tail bank acts on a PATCHES card (R115, R116). -/
def patchesCard (h : Hand) (items : List Byte) (s : State) : State :=
  let r := applyItems (patchItem s.prot.state s.table s.tails.designs) 0
    ((itemsOf 8 h.count items).map PatchItem.ofBytes) s.tails.slots
  let t := s.setTails { s.tails with slots := r.1 }
  complete h (itemCompletion h.count (r.1.toList.countP ineffective) r.2 (patchesReturn (soundingSet s.table) t)) t

/-- PATCHES (R115). -/
def execPatches (s : State) : Host.Outcome State Fault Refusal :=
  let t := settle s
  match t.actingOn .patches with
  | some (h, items) => .next (patchesCard h items t)
  | none => .next t

end Sys2Proof.Machine
end

