-- ==== Sys2Proof/Machine/PickupCards.lean ====
section
/-! DEFINITION. The PICKUPS and MUTES cards, and the pickup supervisor's ends (R122, R127, R131 to R138). -/

namespace Sys2Proof.Machine

/-! ### PICKUPS -/

/-- A setting brought to the nearer end of its range (R131). -/
def clampTo (lo hi n : Nat) : Nat := max lo (min hi n)

/-- 1 where a setting lies outside its range, 0 otherwise. -/
def clamped (lo hi n : Nat) : Nat := if clampTo lo hi n = n then 0 else 1

/-- The ring group of a pickup item as clamped (R119, R131). -/
def RingGroup.clampAll (r : RingGroup) : RingGroup :=
  { rise := clampTo 257 1023 r.rise
    ringFloor := clampTo 0 268435455 r.ringFloor
    cut := clampTo 0 255 r.cut
    trimFloor := clampTo 0 256 r.trimFloor
    hold := clampTo 1 60000 r.hold
    recovery := clampTo 1 64 r.recovery }

/-- A pickup item with every setting in its range (R131). -/
def PickupItem.clampAll (i : PickupItem) : PickupItem :=
  { i with floor := clampTo 0 8388607 i.floor, limit := clampTo 1 60000 i.limit, ring := i.ring.clampAll }

/-- The number of values clamped in a pickup item (R131). -/
def PickupItem.clampCount (i : PickupItem) : Nat :=
  clamped 0 8388607 i.floor + clamped 1 60000 i.limit + clamped 257 1023 i.ring.rise
    + clamped 0 268435455 i.ring.ringFloor + clamped 0 255 i.ring.cut + clamped 0 256 i.ring.trimFloor
    + clamped 1 60000 i.ring.hold + clamped 1 64 i.ring.recovery

/-- The settings of an item are written; a trim floor above the trim raises the trim (R132 steps 1 and 2). -/
def Pickup.setSettings (i : PickupItem) (p : Pickup) : Pickup :=
  { p with floor := i.floor, limit := i.limit, ring := i.ring, trim := max p.trim i.ring.trimFloor }

/-- A DISABLED pickup is enabled (R132 step 3). -/
def Pickup.enabled (p : Pickup) : Pickup :=
  { p with state := .live, trim := 256, silence := 0, hold := 0, ringCount := 0, presence := [], rises := [],
           previous := 0 }

/-- The enable field acts (R132 step 3). -/
def Pickup.setEnable (on : Bool) (p : Pickup) : Pickup :=
  match on, p.state with
  | true, .disabled => p.enabled
  | true, _ => p
  | false, .disabled => p
  | false, _ => { p with state := .disabled, hold := 0 }

/-- One pickup item on the records and the clamped count (R131, R132). -/
def pickupItem (prot : ProtState) (x : Vector Pickup 32 × Nat) (i : PickupItem) :
    Except Result (Vector Pickup 32 × Nat) :=
  if h : i.pickup < 32 then
    if 1 < i.enable then .error .badField
    else
      let c := i.clampAll
      if prot.guards ∧ c.ring ≠ x.1[i.pickup].ring then .error .isProtected
      else .ok (x.1.set i.pickup ((x.1[i.pickup].setSettings c).setEnable (i.enable == 1)), x.2 + i.clampCount)
  else .error .range

/-- The pickup supervisor acts on a PICKUPS card (R131 to R134). -/
def pickupsCard (h : Hand) (items : List Byte) (s : State) : State :=
  let r := applyItems (pickupItem s.prot.state) 0 ((itemsOf 24 h.count items).map PickupItem.ofBytes) (s.sup.pickups, 0)
  let t := s.setSup { s.sup with pickups := r.1.1 }
  complete h (itemCompletion h.count (detailCount r.1.2) r.2 (pickupsReturn t)) t

/-- PICKUPS (R131). -/
def execPickups (s : State) : Host.Outcome State Fault Refusal :=
  let t := settle s
  match t.actingOn .pickups with
  | some (h, items) => .next (pickupsCard h items t)
  | none => .next t

/-! ### MUTES -/

/-- The operations of a MUTES card (R136). -/
inductive MuteOp where
  | set | clear | toggle | test
deriving DecidableEq, Repr

/-- R136. -/
def MuteOp.ofCode : Nat → Option MuteOp
  | 0 => some .set | 1 => some .clear | 2 => some .toggle | 3 => some .test | _ => none

/-- The flag an operation leaves (R137). -/
def MuteOp.act (o : MuteOp) (prior : Bool) : Bool :=
  match o with
  | .set => true | .clear => false | .toggle => !prior | .test => prior

/-- The progress of a MUTES card through its items: the copy of the flags, and the prior values written so far. -/
structure MuteRun where
  flags : List Bool
  writes : List Transfer
deriving DecidableEq, Repr

/-- The items of a MUTES card from item `i` on: an index at or beyond the map's size fails with RANGE, the write of item
`failAt` fails with LINK (R137). -/
def muteItems (o : MuteOp) (listAddr : Nat) (failAt : Option Nat) :
    Nat → List Nat → MuteRun → MuteRun × Option (Nat × Result)
  | _, [], r => (r, none)
  | i, x :: xs, r =>
    match r.flags[x]? with
    | none => (r, some (i, .range))
    | some prior =>
      if failAt = some i then (r, some (i, .link))
      else muteItems o listAddr failAt (i + 1) xs
        { flags := r.flags.set x (o.act prior)
          writes := r.writes ++ [{ addr := listAddr + 2 * i + 1, bytes := leBytes 1 prior.toNat }] }

/-- The completion of a MUTES card (R138): a failed prior-value write has detail 0. -/
def muteCompletion (count : Nat) (fail : Option (Nat × Result)) (returns : List (Nat × List Byte)) : Completion :=
  match fail with
  | none => { result := .ok, remaining := 0, detail := 0, returns := returns }
  | some (i, .link) => { result := .link, remaining := count - i, detail := 0, returns := returns }
  | some (i, r) => { result := r, remaining := count - i, detail := i % 256, returns := returns }

/-- The mute flags of a map (R136). -/
def mapFlags (emitters : Bool) (s : State) : List Bool :=
  if emitters then s.sup.emitterFlag.toList else s.sup.pickups.toList.map (·.muteFlag)

/-- The copy is installed as the map's flags in one action (R137). -/
def installFlags (emitters : Bool) (fs : List Bool) (s : State) : State :=
  if emitters then s.setSup { s.sup with emitterFlag := Vector.ofFn fun e : Fin 96 => fs.getD e.val false }
  else s.setSup { s.sup with
    pickups := Vector.ofFn fun p : Fin 32 => { s.sup.pickups[p] with muteFlag := fs.getD p.val false } }

/-- The pickup supervisor acts on a MUTES card whose arguments are valid (R137, R138). -/
def muteRun (o : MuteOp) (map : Nat) (failAt : Option Nat) (h : Hand) (items : List Byte) (s : State) : State :=
  let e := decide (map = 1)
  let r := muteItems o h.listAddr failAt 0 ((itemsOf 2 h.count items).map muteIndex) { flags := mapFlags e s, writes := [] }
  let t := installFlags e r.1.flags (landAll r.1.writes s)
  complete h (muteCompletion h.count r.2 (mutesReturn map t)) t

/-- The pickup supervisor acts on a MUTES card (R136). -/
def mutesCard (failAt : Option Nat) (h : Hand) (items : List Byte) (s : State) : State :=
  match MuteOp.ofCode (h.arg 24 1) with
  | none => complete h (refusedWhole .badField h s) s
  | some o =>
    if 1 < h.arg 25 1 then complete h (refusedWhole .badField h s) s else muteRun o (h.arg 25 1) failAt h items s

/-- MUTES (R137). -/
def execMutes (failAt : Option Nat) (s : State) : Host.Outcome State Fault Refusal :=
  let t := settle s
  match t.actingOn .mutes with
  | some (h, items) => .next (mutesCard failAt h items t)
  | none => .next t

/-! ### Ends -/

/-- SILENCE_LIMIT (R122). -/
def execSilenceLimit (p : Fin 32) (s : State) : Host.Outcome State Fault Refusal := .next (takeDue (.silence p) s)

/-- RING_HOLD_END (R127). -/
def execRingHoldEnd (p : Fin 32) (s : State) : Host.Outcome State Fault Refusal := .next (takeDue (.ringHold p) s)

end Sys2Proof.Machine
end

