-- ==== Sys2Proof/Machine/MeterUnit.lean ====
section
/-! DEFINITION. The SNAPSHOT card, the meter interval and the meter page write (chapter 8). -/

namespace Sys2Proof.Machine

/-- The SNAPSHOT card takes its snapshot and becomes a long card (R145, R149). -/
def snapshotTaken (r : Root) (clear : Bool) (h : Hand) (s : State) : State :=
  keepLong .snapshot h (takeSnapshot r .card clear s)

/-- A SNAPSHOT card refused at once (R149). -/
def snapshotRefused (r : Result) (h : Hand) (s : State) : State :=
  complete h (plainCompletion r 0 (snapshotReturn s.meter.pageSeq s.meter.skips)) s

/-- The meter unit acts on a SNAPSHOT card (R149); a bad option is refused before a writer that is WRITING is looked at
(assumption log 35). An earlier SNAPSHOT card whose completion is still being written keeps this
one waiting, since the list holds one (R168; assumption log 22). -/
def snapshotCard (h : Hand) (s : State) : State :=
  if 1 < h.arg 24 1 then snapshotRefused .badField h s
  else
    match s.meter.writer, s.reader.snapCard, s.root with
    | some _, _, _ => snapshotRefused .busy h s
    | none, some _, _ => s
    | none, none, none => s
    | none, none, some r => snapshotTaken r (h.arg 24 1 == 1) h s

/-- SNAPSHOT (R149): an expiry of the meter interval that is due stays due, so that the card comes first; with the expiry's own
command before it, the expiry does (R150). -/
def execSnapshot (s : State) : Host.Outcome State Fault Refusal :=
  let t := settleButMeter s
  match t.actingOn .snapshot with
  | some (h, _) => .next (snapshotCard h t)
  | none => .next t

/-- METER_INTERVAL_EXPIRY (R144). -/
def execMeterIntervalExpiry (s : State) : Host.Outcome State Fault Refusal := .next (takeDue .meter s)

/-! ### The page write (R147, R148) -/

/-- The completion of a SNAPSHOT card whose page has ended (R149). -/
def snapshotCompletion (r : Result) (pageSeq : Nat) (hold : Hold) : Completion :=
  plainCompletion r 0 (snapshotReturn pageSeq hold.skips)

/-- The SNAPSHOT card of the page, if a card asked for it, is completed (R149). -/
def endSnapshot (r : Result) (hold : Hold) (s : State) : State :=
  if hold.source = .card then endLong .snapshot (snapshotCompletion r s.meter.pageSeq hold) s else s

/-- The READY header has been written (R147). -/
def pageReady (hold : Hold) (w : PageWrite) (s : State) : State :=
  endSnapshot .ok hold (raise .meter .meters (s.setMeter { s.meter with writer := none, pageSeq := w.seq }))

/-- A write of the page has failed (R148): the held values are lost. -/
def pageFails (hold : Hold) (s : State) : State :=
  endSnapshot .link hold (setFault .meter .memory (s.setMeter { s.meter with writer := none, hold := none }))

/-- A transfer of the page ends (R147, R148). -/
def pageWriteEnds (ok : Bool) (s : State) : State :=
  match s.meter.writer, s.meter.hold with
  | some w, some hold =>
    if ok then
      let t := land (pageTransfer hold w) s
      if w.turn < 14 then t.setMeter { t.meter with writer := some { w with turn := w.turn + 1 } } else pageReady hold w t
    else pageFails hold s
  | none, _ => s
  | some _, none => s

/-- METER_PAGE_WRITE_END (R147). -/
def execMeterPageWriteEnd (ok : Bool) (s : State) : Host.Outcome State Fault Refusal := .next (pageWriteEnds ok (settle s))

end Sys2Proof.Machine
end

