-- ==== Sys2Proof/Machine/CueLineUnit.lean ====
section
/-! DEFINITION. The cue line input: samples, pulses, the holdoff and the CUE LINE card (chapter 9). -/

namespace Sys2Proof.Machine

/-! ### Samples (R153, R154) -/

/-- The other level. -/
def otherLevel : Level → Level
  | .low => .high
  | .high => .low

/-- The filtered level after a sample, from the level before and the history with the sample in it (R153, R154). -/
def filterLevel (i : Nat) (before : Option Level) (h : List Level) (x : Level) : Level :=
  match before with
  | none => x
  | some l => if i = 0 then x else if 3 ≤ h.count (otherLevel l) then otherLevel l else l

/-- The level a pulse's edge leads to (R155). -/
def Edge.leadsTo : Edge → Level
  | .rising => .high
  | .falling => .low

/-- The change from one filtered level to another is a pulse; a level after NONE is no edge (R153, R155). -/
def isPulse (e : Edge) (before : Option Level) (after : Level) : Bool :=
  match before with
  | none => false
  | some l => decide (l ≠ after) && decide (after = e.leadsTo)

/-- The line after a sample has entered the history and the filter has acted (R153). -/
def CueLine.sampled (x : Level) (c : CueLine) : CueLine :=
  let h := pushFour c.history x
  { c with history := h, filtered := some (filterLevel c.filter c.filtered h x) }

/-! ### Pulses (R155) -/

/-- A pulse found the holdoff counter at 0: a line GO is handed over (R155, R157). -/
def acceptPulse (s : State) : State :=
  (s.setCue { s.cue with counter := s.cue.holdoff }).setStager { s.stager with lineGos := s.stager.lineGos + 1 }

/-- A pulse found the holdoff counter above 0 (R155). -/
def bouncePulse (s : State) : State := progressOccasion (s.setCue { s.cue with bounced := wrap32 s.cue.bounced })

/-- A pulse is judged against the holdoff counter (R155). -/
def judgePulse (s : State) : State := if 0 < s.cue.counter then bouncePulse s else acceptPulse s

/-- A sample instant of an enabled line (R153 to R155). -/
def lineSample (x : Level) (s : State) : State :=
  if s.cue.enable then
    let t := s.setCue (s.cue.sampled x)
    if isPulse s.cue.edge s.cue.filtered (filterLevel s.cue.filter s.cue.filtered (pushFour s.cue.history x) x)
    then judgePulse t else t
  else s

/-- CUE_LINE_SAMPLE (R153). -/
def execCueLineSample (x : Level) (s : State) : Host.Outcome State Fault Refusal := .next (lineSample x (settle s))

/-- HOLDOFF_EXPIRY (R156). -/
def execHoldoffExpiry (s : State) : Host.Outcome State Fault Refusal := .next (takeDue .holdoff s)

/-! ### The CUE LINE card (R158, R159) -/

/-- The largest holdoff (R158). -/
def maxHoldoff : Nat := 10000

/-- The arguments of a CUE LINE card that has passed its checks (R158). -/
structure LineSettings where
  enable : Bool
  edge : Edge
  filter : Nat
  holdoff : Nat
deriving DecidableEq, Repr

/-- The settings a CUE LINE card's arguments ask for, or its failure (R158). -/
def lineSettings (h : Hand) : Except Result LineSettings :=
  if 1 < h.arg 24 1 then .error .badField
  else if 1 < h.arg 25 1 then .error .badField
  else .ok { enable := h.arg 24 1 == 1, edge := if h.arg 25 1 = 0 then .rising else .falling, filter := h.arg 26 1,
             holdoff := min maxHoldoff (h.arg 28 2) }

/-- The configuration is written (R158 steps 1 to 3): the filtered level stands only where an enabled line stays enabled. -/
def CueLine.configured (x : LineSettings) (c : CueLine) : CueLine :=
  { c with
    enable := x.enable
    edge := x.edge
    filter := x.filter
    holdoff := x.holdoff
    counter := min c.counter x.holdoff
    history := []
    filtered := if c.enable && x.enable then c.filtered else none }

/-- The cue line input acts on a CUE LINE card (R158, R159). The completion returns the filtered level and the bounced count as they
stand once the card has acted, whatever a sample does before the return fields are written: R159 names no moment (DESIGN CHOICE,
assumption log 39). -/
def cueLineCard (h : Hand) (s : State) : State :=
  match lineSettings h with
  | .error r => complete h (plainCompletion r 0 (cueLineReturn s)) s
  | .ok x =>
    let t := s.setCue (s.cue.configured x)
    complete h (plainCompletion .ok (if maxHoldoff < h.arg 28 2 then 1 else 0) (cueLineReturn t)) t

/-- CUE_LINE (R158). -/
def execCueLine (s : State) : Host.Outcome State Fault Refusal :=
  let t := settle s
  match t.actingOn .cueLine with
  | some (h, _) => .next (cueLineCard h t)
  | none => .next t

end Sys2Proof.Machine
end

