-- ==== Sys2Proof/Machine/ProtectUnit.lean ====
section
/-! DEFINITION. The PROTECT card's five actions and the blow of the fuse (R184 to R187). -/

namespace Sys2Proof.Machine

/-- The actions of a PROTECT card (R185). -/
inductive ProtAction where
  | setCode | unlock | relock | clearCode | fix
deriving DecidableEq, Repr

/-- The action that action flags choose; flags with no bit, more than one bit, or a bit above bit 4 choose none (R185). -/
def ProtAction.ofFlags : Nat → Option ProtAction
  | 1 => some .setCode | 2 => some .unlock | 4 => some .relock | 8 => some .clearCode | 16 => some .fix | _ => none

/-- The comparison of a card's code with the code held (R186): the result and the unit after it. `matched` is what a
match leaves. -/
def compareCode (code : Code) (matched : Protect → Protect) (p : Protect) : Result × Protect :=
  if 5 ≤ p.wrong then (.lockedOut, p)
  else if p.code = some code then (.ok, matched p)
  else (.wrongCode, { p with wrong := p.wrong + 1 })

/-- SET CODE by state (R185). -/
def protSetCode (code : Code) (p : Protect) : Result × Protect :=
  match p.state with
  | .none | .opened => (.ok, { p with state := .locked, code := some code })
  | .locked => (.isProtected, p)
  | .isFixed => (.fixed, p)

/-- UNLOCK by state (R185, R186). -/
def protUnlock (code : Code) (p : Protect) : Result × Protect :=
  match p.state with
  | .none => (.notLocked, p)
  | .locked => compareCode code (fun q => { q with state := .opened, wrong := 0 }) p
  | .opened => (.ok, p)
  | .isFixed => (.fixed, p)

/-- RELOCK by state (R185). -/
def protRelock (p : Protect) : Result × Protect :=
  match p.state with
  | .none => (.notLocked, p)
  | .locked => (.ok, p)
  | .opened => (.ok, { p with state := .locked })
  | .isFixed => (.fixed, p)

/-- CLEAR CODE by state (R185, R186). -/
def protClearCode (code : Code) (p : Protect) : Result × Protect :=
  match p.state with
  | .none => (.notLocked, p)
  | .locked | .opened => compareCode code (fun q => { q with state := .none, code := none }) p
  | .isFixed => (.fixed, p)

/-- FIX by state: its result where it completes at once, `none` where the blow begins (R185, R187). -/
def protFix (p : Protect) : Option Result :=
  match p.state with
  | .none | .opened => none
  | .locked => some .isProtected
  | .isFixed => some .ok

/-- A PROTECT card completes with a result and the unit it leaves (R185). -/
def protectDone (h : Hand) (r : Result × Protect) (s : State) : State :=
  let t := s.setProt r.2
  complete h (plainCompletion r.1 0 (protectReturn t)) t

/-- The protection unit acts on a PROTECT card whose command is `a`: bad flags fail under each of the five commands, and flags
that choose another action leave the card to that action's command (R185; assumption log 24). -/
def protectCard (a : ProtAction) (act : Hand → State → State) (h : Hand) (s : State) : State :=
  match ProtAction.ofFlags (h.arg 24 1) with
  | none => protectDone h (.badField, s.prot) s
  | some b => if b = a then act h s else s

/-- SET_CODE (R185). -/
def execSetCode (s : State) : Host.Outcome State Fault Refusal :=
  let t := settle s
  match t.actingOn .protect with
  | some (h, _) => .next (protectCard .setCode (fun h u => protectDone h (protSetCode h.code u.prot) u) h t)
  | none => .next t

/-- UNLOCK (R186). -/
def execUnlock (s : State) : Host.Outcome State Fault Refusal :=
  let t := settle s
  match t.actingOn .protect with
  | some (h, _) => .next (protectCard .unlock (fun h u => protectDone h (protUnlock h.code u.prot) u) h t)
  | none => .next t

/-- RELOCK (R185). -/
def execRelock (s : State) : Host.Outcome State Fault Refusal :=
  let t := settle s
  match t.actingOn .protect with
  | some (h, _) => .next (protectCard .relock (fun h u => protectDone h (protRelock u.prot) u) h t)
  | none => .next t

/-- CLEAR_CODE (R186). -/
def execClearCode (s : State) : Host.Outcome State Fault Refusal :=
  let t := settle s
  match t.actingOn .protect with
  | some (h, _) => .next (protectCard .clearCode (fun h u => protectDone h (protClearCode h.code u.prot) u) h t)
  | none => .next t

/-- The protection unit acts on FIX (R185, R187). -/
def fixCard (h : Hand) (s : State) : State :=
  match protFix s.prot with
  | some r => protectDone h (r, s.prot) s
  | none => setHand { h with phase := .blowing } s

/-- FIX (R187). -/
def execFix (s : State) : Host.Outcome State Fault Refusal :=
  let t := settle s
  match t.actingOn .protect with
  | some (h, _) => .next (protectCard .fix fixCard h t)
  | none => .next t

/-- The read back of the fuse at the end of the blow (R187). -/
def blowResult (blown : Bool) (p : Protect) : Result × Protect :=
  if blown then (.ok, { p with fuseBlown := true, state := .isFixed }) else (.link, p)

/-- The blow of the fuse ends, where one is in progress (R187). -/
def blowEnds (blown : Bool) (s : State) : State :=
  match s.reader.hand with
  | none => s
  | some h =>
    match h.phase with
    | .blowing => protectDone h (blowResult blown s.prot) s
    | .taking | .listing _ _ | .acting _ | .reporting _ _ _ _ _ | .completing _ => s

/-- FUSE_BLOW_END (R187). -/
def execFuseBlowEnd (blown : Bool) (s : State) : Host.Outcome State Fault Refusal := .next (blowEnds blown (settle s))

end Sys2Proof.Machine
end

