-- ==== Sys2Proof/Machine/StoreUnit.lean ====
section
/-! DEFINITION. The commissioning store: the STORE card, its erase, program and verify, and the load (R189 to R192). -/

namespace Sys2Proof.Machine

/-! ### The STORE card (R190) -/

/-- The protection state as an image holds it: OPEN is captured as LOCKED (R190). -/
def ProtState.captured : ProtState → ProtState
  | .none => .none
  | .locked | .opened => .locked
  | .isFixed => .isFixed

/-- The code as an image holds it: zeros in NONE, the code held otherwise; FIXED with no code held is a free value (R190;
assumption log 11). -/
def capturedCode (seq : Nat) (p : Protect) : Code :=
  match p.state, p.code with
  | .none, _ => Vector.replicate 32 0
  | _, some c => c
  | _, none => Config.unheldCode seq

/-- The image a STORE card captures (R190 step 1). -/
def captureImage (s : State) : Image :=
  { seq := wrap32 s.store.seq
    state := s.prot.state.captured
    code := capturedCode (wrap32 s.store.seq) s.prot
    ceilings := s.budget.ceilings
    slots := s.tails.slots
    rings := s.sup.pickups.map Pickup.ring }

/-- The write begins with the capture, and the erase with it: the flash no longer holds a good image (R190, R191). -/
def beginStore (s : State) : State :=
  s.setStore { s.store with state := .writing .erasing (captureImage s), flash := erasedFlash }

/-- The commissioning store acts on a STORE card (R190). An earlier STORE card whose completion is still being written keeps this
one waiting, since the list holds one (R168; assumption log 22). -/
def storeCardActs (h : Hand) (s : State) : State :=
  match s.store.state with
  | .writing _ _ => complete h (plainCompletion .busy 0 (storeReturn s.store.seq)) s
  | .loading => s
  | .idle => if s.reader.storeCard.isSome then s else keepLong .store h (beginStore s)

/-- STORE (R190). -/
def execStore (s : State) : Host.Outcome State Fault Refusal :=
  let t := settle s
  match t.actingOn .store with
  | some (h, _) => .next (storeCardActs h t)
  | none => .next t

/-- The store's state is replaced. -/
def setStoreState (x : StoreState) (s : State) : State := s.setStore { s.store with state := x }

/-- The erase after a verify that did not match ends: the store is IDLE, its count unchanged, and the card completes LINK
(R190). -/
def clearEnds (s : State) : State :=
  endLong .store (plainCompletion .link 0 (storeReturn s.store.seq)) (setStoreState .idle s)

/-- The erase ends: programming begins (R190 step 2), or the write that did not verify is over (assumption log 37). -/
def eraseEnds (s : State) : State :=
  match s.store.state with
  | .writing .erasing i => setStoreState (.writing .programming i) s
  | .writing .clearing _ => clearEnds s
  | .loading | .idle | .writing .programming _ | .writing .verifying _ => s

/-- STORE_ERASE_END (R190). -/
def execStoreEraseEnd (s : State) : Host.Outcome State Fault Refusal := .next (eraseEnds (settle s))

/-- Programming ends with the CRC and the verify begins (R190 step 3). A flash that has not taken every byte holds a bad image,
which the erased area stands for (R191; assumption log 10). -/
def programEnds (faithful : Bool) (s : State) : State :=
  match s.store.state with
  | .writing .programming i =>
    s.setStore { s.store with state := .writing .verifying i, flash := if faithful then imageBytes i else s.store.flash }
  | .loading | .idle | .writing .erasing _ | .writing .verifying _ | .writing .clearing _ => s

/-- STORE_PROGRAM_END (R190). -/
def execStoreProgramEnd (faithful : Bool) (s : State) : Host.Outcome State Fault Refusal :=
  .next (programEnds faithful (settle s))

/-- What a read of the flash area brings: a flash that does not answer reads as 0xFF (R189). -/
def flashRead (answers : Bool) (s : State) : List Byte := if answers then s.store.flash else erasedFlash

/-- The verify matches (R190 step 4). -/
def verifyMatches (i : Image) (s : State) : State :=
  endLong .store (plainCompletion .ok 0 (storeReturn i.seq)) (s.setStore { s.store with state := .idle, seq := i.seq })

/-- The verify does not match: the erase of the flash area begins, and with it the flash holds no good image (R190, R191). -/
def verifyFails (i : Image) (s : State) : State :=
  s.setStore { s.store with state := .writing .clearing i, flash := erasedFlash }

/-- The verify ends (R190 step 4). -/
def verifyEnds (answers : Bool) (s : State) : State :=
  match s.store.state with
  | .writing .verifying i => if flashRead answers s = imageBytes i then verifyMatches i s else verifyFails i s
  | .loading | .idle | .writing .erasing _ | .writing .programming _ | .writing .clearing _ => s

/-- STORE_VERIFY_END (R190). -/
def execStoreVerifyEnd (answers : Bool) (s : State) : Host.Outcome State Fault Refusal := .next (verifyEnds answers (settle s))

/-! ### The load (R192) -/

/-- The values a load installs, before the fuse decides the state (R192). -/
structure Loaded where
  seq : Nat
  state : ProtState
  code : Option Code
  ceilings : Vector Nat 96
  slots : Vector (Option Patch) 8
  rings : Vector RingGroup 32
deriving DecidableEq, Repr

/-- The code an image brings: none where its state is NONE (R184, R192). -/
def Image.heldCode (i : Image) : Option Code := if i.state = .none then none else some i.code

/-- The values of a good image. -/
def Image.loaded (i : Image) : Loaded :=
  { seq := i.seq, state := i.state, code := i.heldCode, ceilings := i.ceilings, slots := i.slots, rings := i.rings }

/-- The values installed for a bad image (R192). -/
def Loaded.defaults : Loaded :=
  { seq := 0, state := .none, code := none, ceilings := Vector.replicate 96 0, slots := Vector.replicate 8 none,
    rings := Vector.replicate 32 .factory }

/-- The state installed as the fuse decides it (R192). -/
def fuseState (blown : Bool) (st : ProtState) : ProtState :=
  if blown then .isFixed else if st = .isFixed then .locked else st

/-- Fuse and image disagree: FAULT.PROTECT-LOAD is set (R192). -/
def fuseDisagrees (blown : Bool) (st : ProtState) : Bool := blown != decide (st = .isFixed)

/-- The loaded values take their places, the store enters IDLE and the engine enters STOPPED (R192). -/
def install (x : Loaded) (s : State) : State :=
  let t := s.setBudget { s.budget with ceilings := x.ceilings }
  let t := t.setTails { t.tails with slots := x.slots }
  let t := t.setSup { t.sup with pickups := Vector.ofFn fun p : Fin 32 => { t.sup.pickups[p] with ring := x.rings[p] } }
  let t := t.setProt { t.prot with state := fuseState t.prot.fuseBlown x.state, code := x.code, wrong := 0 }
  let t := t.setStore { t.store with state := .idle, seq := x.seq }
  t.setEngine { t.engine with state := .stopped }

/-- A bit of FAULT is set by the store where a condition holds. -/
def faultIf (c : Bool) (b : FaultBit) (s : State) : State := if c then setFault .store b s else s

/-- The load ends with an image, good or bad (R192). -/
def loadImage (o : Option Image) (s : State) : State :=
  let x : Loaded := (o.map Image.loaded).getD .defaults
  faultIf (fuseDisagrees s.prot.fuseBlown x.state) .protectLoad (faultIf o.isNone .store (install x s))

/-- The load ends, where one is in progress (R192). -/
def loadEnds (answers : Bool) (s : State) : State :=
  if s.engine.state = .loading then loadImage (imageOfBytes (flashRead answers s)) s else s

/-- STORE_LOAD_END (R192). -/
def execStoreLoadEnd (answers : Bool) (s : State) : Host.Outcome State Fault Refusal := .next (loadEnds answers (settle s))

end Sys2Proof.Machine
end

