-- ==== Sys2Proof/Machine/ReportCard.lean ====
section
/-! DEFINITION. The REPORT card and its transfers (R22 to R25). -/

namespace Sys2Proof.Machine

/-- The entries a REPORT card copies (R23). -/
def reportCopy (start count : Nat) (table : List Entry) : List Entry := (table.drop start).take count

/-- The completion of a REPORT card that has written `written` of its `w` entries (R24, R25). -/
def reportCompletion (r : Result) (written w total cueCounter : Nat) : Completion :=
  { result := r, remaining := w - written, detail := 0, returns := reportReturn written total cueCounter }

/-- A REPORT card whose buffer address is not a multiple of 8 (R22; the returns: assumption log 23). -/
def reportRefused (h : Hand) (s : State) : State := complete h (refusedWhole .badField h s) s

/-- The path engine takes the copy (R23): the writes begin, or with nothing copied the card is complete (R24). -/
def reportBegins (h : Hand) (s : State) : State :=
  let c := reportCopy (h.arg 24 2) h.count s.table
  if c.isEmpty then complete h (reportCompletion .ok 0 0 s.table.length s.stager.cueCounter) s
  else setHand { h with phase := .reporting c 0 c.length s.table.length s.stager.cueCounter } s

/-- The path engine acts on a REPORT card (R22, R23). -/
def reportCard (h : Hand) (s : State) : State := if h.listAddr % 8 = 0 then reportBegins h s else reportRefused h s

/-- REPORT (R23). -/
def execReport (s : State) : Host.Outcome State Fault Refusal :=
  let t := settle s
  match t.actingOn .report with
  | some (h, _) => .next (reportCard h t)
  | none => .next t

/-- The transfer in flight: 16 entries, or the rest, after the `written` entries before it (R24; that every transfer but the last
carries 16 is the model's choice: assumption log 31). -/
def reportTransfer (listAddr written : Nat) (rest : List Entry) : Transfer :=
  { addr := listAddr + 16 * written, bytes := (rest.take 16).flatMap reportEntryBytes }

/-- A transfer of report entries ends (R24, R25). -/
def reportTransferEnds (ok : Bool) (s : State) : State :=
  match s.reader.hand with
  | none => s
  | some h =>
    match h.phase with
    | .reporting rest written w total cueCounter =>
      if ok then
        let t := land (reportTransfer h.listAddr written rest) s
        if (rest.drop 16).isEmpty then complete h (reportCompletion .ok w w total cueCounter) t
        else setHand { h with phase := .reporting (rest.drop 16) (written + 16) w total cueCounter } t
      else complete h (reportCompletion .link written w total cueCounter) s
    | .taking | .listing _ _ | .acting _ | .blowing | .completing _ => s

/-- REPORT_TRANSFER_END (R24). -/
def execReportTransferEnd (ok : Bool) (s : State) : Host.Outcome State Fault Refusal :=
  .next (reportTransferEnds ok (settle s))

end Sys2Proof.Machine
end

