-- ==== Sys2Proof/Machine/Dispatch.lean ====
section
/-! DEFINITION. One arm for each command. -/

namespace Sys2Proof.Machine

/-- The effect of a command on everything but the queue. -/
def exec (i : Instr) (s : State) : Host.Outcome State Fault Refusal :=
  match i with
  | .powerOnReset => Sys2Proof.Machine.execPowerOnReset s
  | .linkReset => Sys2Proof.Machine.execLinkReset s
  | .engineReset => Sys2Proof.Machine.execEngineReset s
  | .storeLoadEnd answers => Sys2Proof.Machine.execStoreLoadEnd answers s
  | .runStart => Sys2Proof.Machine.execRunStart s
  | .runStop => Sys2Proof.Machine.execRunStop s
  | .noticeEnable on => Sys2Proof.Machine.execNoticeEnable on s
  | .vectorCount code => Sys2Proof.Machine.execVectorCount code s
  | .sweepNow => Sys2Proof.Machine.execSweepNow s
  | .noticeMaskWrite value => Sys2Proof.Machine.execNoticeMaskWrite value s
  | .faultClear value => Sys2Proof.Machine.execFaultClear value s
  | .registerWrite offset width value => Sys2Proof.Machine.execRegisterWrite offset width value s
  | .rootReadEnd data => Sys2Proof.Machine.execRootReadEnd data s
  | .stoppingEnd => Sys2Proof.Machine.execStoppingEnd s
  | .clockLoss => Sys2Proof.Machine.execClockLoss s
  | .clockReturn => Sys2Proof.Machine.execClockReturn s
  | .laneLock lane => Sys2Proof.Machine.execLaneLock lane s
  | .laneLoss lane => Sys2Proof.Machine.execLaneLoss lane s
  | .blockEnd => Sys2Proof.Machine.execBlockEnd s
  | .rampEnd key => Sys2Proof.Machine.execRampEnd key s
  | .entryRemoval key => Sys2Proof.Machine.execEntryRemoval key s
  | .dipLowPoint key => Sys2Proof.Machine.execDipLowPoint key s
  | .dipUpEnd key => Sys2Proof.Machine.execDipUpEnd key s
  | .fadeEnd => Sys2Proof.Machine.execFadeEnd s
  | .silenceLimit pickup => Sys2Proof.Machine.execSilenceLimit pickup s
  | .ringHoldEnd pickup => Sys2Proof.Machine.execRingHoldEnd pickup s
  | .meterIntervalExpiry => Sys2Proof.Machine.execMeterIntervalExpiry s
  | .meterPageWriteEnd ok => Sys2Proof.Machine.execMeterPageWriteEnd ok s
  | .holdoffExpiry => Sys2Proof.Machine.execHoldoffExpiry s
  | .cueLineSample level => Sys2Proof.Machine.execCueLineSample level s
  | .lineGo => Sys2Proof.Machine.execLineGo s
  | .sweepTimerExpiry => Sys2Proof.Machine.execSweepTimerExpiry s
  | .slotRead data => Sys2Proof.Machine.execSlotRead data s
  | .itemListRead data => Sys2Proof.Machine.execItemListRead data s
  | .cardWriteEnd ok => Sys2Proof.Machine.execCardWriteEnd ok s
  | .sweepEnd => Sys2Proof.Machine.execSweepEnd s
  | .stage => Sys2Proof.Machine.execStage s
  | .standby => Sys2Proof.Machine.execStandby s
  | .dropStandby => Sys2Proof.Machine.execDropStandby s
  | .go => Sys2Proof.Machine.execGo s
  | .ceilings => Sys2Proof.Machine.execCeilings s
  | .tails => Sys2Proof.Machine.execTails s
  | .patches => Sys2Proof.Machine.execPatches s
  | .pickups => Sys2Proof.Machine.execPickups s
  | .mutes failAt => Sys2Proof.Machine.execMutes failAt s
  | .snapshot => Sys2Proof.Machine.execSnapshot s
  | .cueLine => Sys2Proof.Machine.execCueLine s
  | .setCode => Sys2Proof.Machine.execSetCode s
  | .unlock => Sys2Proof.Machine.execUnlock s
  | .relock => Sys2Proof.Machine.execRelock s
  | .clearCode => Sys2Proof.Machine.execClearCode s
  | .fix => Sys2Proof.Machine.execFix s
  | .fuseBlowEnd blown => Sys2Proof.Machine.execFuseBlowEnd blown s
  | .store => Sys2Proof.Machine.execStore s
  | .storeEraseEnd => Sys2Proof.Machine.execStoreEraseEnd s
  | .storeProgramEnd faithful => Sys2Proof.Machine.execStoreProgramEnd faithful s
  | .storeVerifyEnd answers => Sys2Proof.Machine.execStoreVerifyEnd answers s
  | .report => Sys2Proof.Machine.execReport s
  | .reportTransferEnd ok => Sys2Proof.Machine.execReportTransferEnd ok s
  | .longCardCompletion which failAt => Sys2Proof.Machine.execLongCardCompletion which failAt s
  | .progressWriteEnd ok => Sys2Proof.Machine.execProgressWriteEnd ok s
  | .noticeWriteEnd ok => Sys2Proof.Machine.execNoticeWriteEnd ok s
  | .sampleComputation lanes markers => Sys2Proof.Machine.execSampleComputation lanes markers s

end Sys2Proof.Machine
end

