-- ==== Sys2Proof/Safety.lean ====
section
/-! DEFINITION. What a safe state of the block is: the laws the manual states of every state, as predicates that claims name, and
the state in which nothing is left over from a block end. -/

namespace Sys2Proof.Machine

/-! ### Settled states and due ends -/

/-- Nothing is left of a block end: no end is due, no block waits to begin, and STOPPING has not met its condition (assumption log
1). -/
abbrev Settled (s : State) : Prop := s.due = [] ∧ s.mix.opening = false ∧ stoppingDone s = false

/-- The end that a command of the table takes, for the nine commands that are ends a block end brings about. -/
def endOf : Instr → Option Due
  | .rampEnd k => some (.ramp k)
  | .entryRemoval k => some (.removal k)
  | .dipLowPoint k => some (.dipLow k)
  | .dipUpEnd k => some (.dipUp k)
  | .fadeEnd => some .fade
  | .silenceLimit p => some (.silence p)
  | .ringHoldEnd p => some (.ringHold p)
  | .meterIntervalExpiry => some .meter
  | .holdoffExpiry => some .holdoff
  | .powerOnReset | .linkReset | .engineReset | .storeLoadEnd _ | .runStart | .runStop | .noticeEnable _
  | .vectorCount _ | .sweepNow | .noticeMaskWrite _ | .faultClear _ | .registerWrite _ _ _ | .rootReadEnd _
  | .stoppingEnd | .clockLoss | .clockReturn | .laneLock _ | .laneLoss _ | .blockEnd | .meterPageWriteEnd _
  | .cueLineSample _ | .lineGo | .sweepTimerExpiry | .slotRead _ | .itemListRead _ | .cardWriteEnd _ | .sweepEnd
  | .stage | .standby | .dropStandby | .go | .ceilings | .tails | .patches | .pickups | .mutes _ | .snapshot
  | .cueLine | .setCode | .unlock | .relock | .clearCode | .fix | .fuseBlowEnd _ | .store | .storeEraseEnd
  | .storeProgramEnd _ | .storeVerifyEnd _ | .report | .reportTransferEnd _ | .longCardCompletion _ _
  | .progressWriteEnd _ | .noticeWriteEnd _ | .sampleComputation _ _ => none

/-! ### Laws of every state -/

/-- Host memory is in its canonical form. -/
abbrev MemInv (s : State) : Prop := s.hostMem.wf

/-- While LOADING no card is read or in hand (R85, R165). -/
abbrev LoadingIdle (s : State) : Prop := s.engine.state = .loading → s.reader.state = .off ∧ s.reader.hand = none

/-- A gain code (R2). -/
abbrev isGain (g : Int) : Prop := -32768 ≤ g ∧ g ≤ 32767

/-- The fields of an entry lie in their ranges, the pending delay of a dip included (R9). -/
def Entry.inRange (e : Entry) : Prop :=
  isGain e.requested ∧ e.delay ≤ 4800 ∧
    (match e.motion with
      | .dipDown _ _ p _ => p ≤ 4800
      | .settled | .ramping _ _ | .dipUp _ _ | .retiring _ _ => True)

/-- The fields of a standby item lie in their ranges (R44). -/
def StandbyItem.inRange (i : StandbyItem) : Prop :=
  match i.op with
  | .set g d => isGain g ∧ d ≤ 4800
  | .retire => True

/-- The laws of the path table: key order without two entries of one key, at most 1536 entries, at most 24 into a destination
(R8, R13), fields in range (R9), and a standby list of at most 1536 items with keys apart (R44). -/
structure TableInv (s : State) : Prop where
  ordered : s.table.Pairwise fun a b => a.key.rank < b.key.rank
  total : s.table.length ≤ 1536
  perDest : ∀ d, destCount s.table d ≤ 24
  ranges : ∀ e ∈ s.table, e.inRange
  standbyTotal : s.stager.standby.items.length ≤ 1536
  standbyKeys : s.stager.standby.items.Pairwise fun a b => a.key ≠ b.key
  standbyRanges : ∀ i ∈ s.stager.standby.items, i.inRange

/-- The weighted sum of the target gains into an emitter (R32). -/
def targetSum (table : List Entry) (em : Fin 96) : Nat :=
  sumOver (intoEmitter em) (fun e => e.target.natAbs * sourceWeight table e) table

/-- The two laws of the budget (R32), with the table empty while LOADING (R26, R85). -/
structure BudgetInv (s : State) : Prop where
  idle : LoadingIdle s
  empty : s.engine.state = .loading → s.table = []
  tails : ∀ t, tailWeight s.table t ≤ 32768
  emitters : ∀ em : Fin 96, targetSum s.table em ≤ s.budget.ceilings[em] * 16384

/-- The law of the trims (R129), with the ring groups in their ranges (R119) and the trims at 256 while LOADING. -/
structure TrimInv (s : State) : Prop where
  idle : LoadingIdle s
  fresh : s.engine.state = .loading → ∀ p : Fin 32, s.sup.pickups[p].trim = 256
  rings : ∀ p : Fin 32, s.sup.pickups[p].ring.inRange = true
  trims : ∀ p : Fin 32, s.sup.pickups[p].ring.trimFloor ≤ s.sup.pickups[p].trim ∧ s.sup.pickups[p].trim ≤ 256

/-- Every mute gain is a multiple of 32 from 0 to 256 (R80), the silence groups lie in their ranges (R119), and a ceiling is below
65536 (R3). -/
structure FactorInv (s : State) : Prop where
  pickups : ∀ p : Fin 32, s.sup.pickups[p].muteGain ≤ 256 ∧ s.sup.pickups[p].muteGain % 32 = 0
  emitters : ∀ e : Fin 96, s.sup.emitterGain[e] ≤ 256 ∧ s.sup.emitterGain[e] % 32 = 0
  silence : ∀ p : Fin 32, s.sup.pickups[p].floor ≤ 8388607 ∧ 1 ≤ s.sup.pickups[p].limit ∧ s.sup.pickups[p].limit ≤ 60000
  ceilings : ∀ e : Fin 96, s.budget.ceilings[e] ≤ 65535

/-- Run control: RUN agrees with the engine state, cards are in hand only while SWEEPING, the reader is OFF unless the engine is RUNNING
or STOPPING, and a root is held in those two states (R84 to R87, R163, R165, R171). -/
structure RunInv (s : State) : Prop where
  loading : s.engine.state = .loading → s.engine.run = false
  stopped : s.engine.state = .stopped → s.engine.run = false
  running : s.engine.state = .running → s.engine.run = true
  reader : s.reader.state ≠ .off → s.engine.state = .running ∨ s.engine.state = .stopping
  hand : s.reader.hand.isSome = true → s.reader.state = .sweeping
  root : s.engine.state = .running ∨ s.engine.state = .stopping → s.root.isSome = true

/-- The notice unit: nothing pends while notices are disabled (R180), the queue holds at most 16 writes, the link port has one in hand
while any waits, and a pending vector that may go out waits only for room (R181). -/
structure NoticeInv (s : State) : Prop where
  disabled : s.notice.enable = false → ∀ v : Fin 8, s.notice.pending[v] = none
  room : s.notice.queue.length ≤ 16
  handed : s.notice.handed = none → s.notice.queue = []
  waits : s.root.isSome = true → ∀ v : Fin 8, s.notice.pending[v].isSome = true → s.notice.mask.getLsbD v = false →
    s.notice.queue.length = 16

/-- The protection unit: a code is held in LOCKED and OPEN and not in NONE (R184), the wrong-code count is at most 5 (R186), and after
LOADING the state is FIXED exactly where the fuse is blown (R187, R192). -/
structure ProtInv (s : State) : Prop where
  none : s.prot.state = .none → s.prot.code = none
  held : s.prot.state = .locked ∨ s.prot.state = .opened → s.prot.code.isSome = true
  wrong : s.prot.wrong ≤ 5
  fuse : s.engine.state ≠ .loading → (s.prot.state = .isFixed ↔ s.prot.fuseBlown = true)

/-! ### Frames -/

/-- The parts of the state, one for each of its fields. -/
inductive Part where
  | hostMem | regs | root | progress | engine | reader | stager | table | budget | mix | tails | sup
  | meter | cue | notice | prot | store | due | freeIndex | pending
deriving DecidableEq, Repr

/-- A part is the same in two states. -/
def Part.same (p : Part) (s t : State) : Prop :=
  match p with
  | .hostMem => t.hostMem = s.hostMem
  | .regs => t.regs = s.regs
  | .root => t.root = s.root
  | .progress => t.progress = s.progress
  | .engine => t.engine = s.engine
  | .reader => t.reader = s.reader
  | .stager => t.stager = s.stager
  | .table => t.table = s.table
  | .budget => t.budget = s.budget
  | .mix => t.mix = s.mix
  | .tails => t.tails = s.tails
  | .sup => t.sup = s.sup
  | .meter => t.meter = s.meter
  | .cue => t.cue = s.cue
  | .notice => t.notice = s.notice
  | .prot => t.prot = s.prot
  | .store => t.store = s.store
  | .due => t.due = s.due
  | .freeIndex => t.freeIndex = s.freeIndex
  | .pending => t.pending = s.pending

/-- The two states differ in the parts listed at most: the frame of a command that changes those. -/
abbrev SameOutside (changed : List Part) (s t : State) : Prop := ∀ p : Part, p ∉ changed → p.same s t

/-! ### Transitions of the engine -/

/-- One command takes the engine from the first state to the second, transitions it passes through at once included (R84, R87). -/
def engineMoves : List (EngineState × EngineState) :=
  [(.loading, .stopped), (.stopped, .starting), (.starting, .running), (.starting, .stopped), (.running, .stopping),
   (.running, .stopped), (.stopping, .stopped), (.stopping, .starting)]

/-- A protected item: the ceilings, the patch slots and the ring groups (R188). -/
def protectedItems (s : State) : Vector Nat 96 × Vector (Option Patch) 8 × Vector RingGroup 32 :=
  (s.budget.ceilings, s.tails.slots, s.sup.pickups.map Pickup.ring)

end Sys2Proof.Machine
end

