-- ==== Sys2Proof/Certificates/Slice0/Obligations.lean ====
section
/-! DEFINITION. The statements for the provers: what the manual's rules say of the machine and of each command. A statement about a
command is made for a settled state; `CommandsActOnSettledState` carries it to every state. -/

open Sys2Proof Sys2Proof.Machine

/-! ### The machine as a whole -/

/-- A step runs the command at the front of the queue on the state with the queue's rest; an empty queue idles
(assumption log 6). -/
def Obligations.StepRunsFrontCommand : Prop :=
  (∀ (c : Instr) (q : List Instr) (s : State), step (s.withQueue (c :: q)) = exec c (s.withQueue q))
    ∧ ∀ s : State, step (s.withQueue []) = .next (s.withQueue [])

/-- Every command answers a next state, and leaves the queue as it stands. -/
def Obligations.CommandsAnswerNextAndKeepQueue : Prop :=
  ∀ (c : Instr) (s : State), ∃ t, exec c s = .next t ∧ t.pending = s.pending

/-- Every command but the ends of a block end acts on the state in which every due end has been taken, and that state
is settled; a SNAPSHOT card does so where no expiry of the meter interval is due, and comes before one that is; the
command of a due end takes that end alone, and changes nothing where the end is not due. Settling takes the ends due one
after another in their order; with none due it ends STOPPING where R87's condition holds, and then the next block begins
where one waits to begin. (All of this is the model's choice: assumption log 1, 6, 38, 44.) -/
def Obligations.CommandsActOnSettledState : Prop :=
  (∀ s : State, Settled (settle s))
    ∧ (∀ (c : Instr) (s : State), endOf c = none → (c = .snapshot → .meter ∉ s.due) → exec c s = exec c (settle s))
    ∧ (∀ (c : Instr) (d : Due) (s : State), endOf c = some d →
      (d ∈ s.due → exec c s = .next (dueEffect d (s.setDue (s.due.erase d)))) ∧ (d ∉ s.due → exec c s = .next s))
    ∧ (∀ (s : State) (d : Due) (ds : List Due), s.due = d :: ds → settle s = settle (dueEffect d (s.setDue ds)))
    ∧ ∀ s : State, s.due = [] →
      let stopped := s.setEngine (if s.engine.run then
          { state := .starting, run := true, startAddr := s.regs.exchangeHigh.toNat * 2 ^ 32 + s.regs.exchangeLow.toNat }
        else { s.engine with state := .stopped })
      let t := if s.engine.state = .stopping ∧ s.reader.state = .off
          ∧ (s.mix.clock = false ∨ ∀ e : Fin 96, s.sup.emitterGain[e] = 0) then stopped else s
      settle s = if s.mix.opening then openBlock t else t

/-- Every step keeps host memory in its canonical form. (What host memory holds is modelled as in assumption log 4.) -/
def Obligations.HostMemoryKeepsCanonicalForm : Prop :=
  ∀ s t : State, MemInv s → step s = .next t → MemInv t

/-- Every step keeps the path table within its limits (R13), in key order (R8), and the standby list within its own
(R44). -/
def Obligations.PathTableStaysWithinLimits : Prop :=
  ∀ s t : State, TableInv s → step s = .next t → TableInv t

/-- Every step keeps the two laws of the loop-gain budget (R32). -/
def Obligations.BudgetLawHoldsAfterEveryStep : Prop :=
  ∀ s t : State, BudgetInv s → step s = .next t → BudgetInv t

/-- Every step keeps every trim between its pickup's trim floor and 256 (R129). -/
def Obligations.TrimsStayAboveTheirFloors : Prop :=
  ∀ s t : State, TrimInv s → step s = .next t → TrimInv t

/-- Every step keeps every mute gain a multiple of 32 from 0 to 256 (R80), the silence groups in range (R119), and
the ceilings (R3). -/
def Obligations.FactorsStayInRange : Prop :=
  ∀ s t : State, FactorInv s → step s = .next t → FactorInv t

/-- Every step keeps RUN, the reader, the card in hand and the root in agreement with the engine state. -/
def Obligations.RunControlStaysConsistent : Prop :=
  ∀ s t : State, RunInv s → step s = .next t → RunInv t

/-- Every step keeps the notice unit's laws (R180, R181). -/
def Obligations.NoticeUnitStaysConsistent : Prop :=
  ∀ s t : State, NoticeInv s → step s = .next t → NoticeInv t

/-- Every step keeps the protection unit's laws (R184, R186, R187, R192), and no step makes a blown fuse intact. -/
def Obligations.ProtectionStaysConsistent : Prop :=
  (∀ s t : State, ProtInv s → step s = .next t → ProtInv t)
    ∧ ∀ s t : State, s.prot.fuseBlown = true → step s = .next t → t.prot.fuseBlown = true

/-- The state after reset meets every law, and is settled. The values of ceilings, slots, ring groups and protection
before the first load are the model's (assumption log 2). -/
def Obligations.ResetMeetsEveryLaw : Prop :=
  MemInv State.reset ∧ TableInv State.reset ∧ BudgetInv State.reset ∧ TrimInv State.reset ∧ FactorInv State.reset
    ∧ RunInv State.reset ∧ NoticeInv State.reset ∧ ProtInv State.reset ∧ Settled State.reset

/-- While the protection state is LOCKED or FIXED, no command but the end of a store load changes a ceiling, a patch
slot or a ring group (R188). -/
def Obligations.ProtectedItemsChangeOnlyByLoad : Prop :=
  ∀ (c : Instr) (s t : State), s.prot.state = .locked ∨ s.prot.state = .isFixed → (∀ a, c ≠ .storeLoadEnd a) →
    exec c s = .next t → protectedItems t = protectedItems s

/-- A bit of FAULT that is set stays set through every command but a power-on reset and the host's writes (R162). -/
def Obligations.FaultBitsAreSticky : Prop :=
  ∀ (c : Instr) (b : FaultBit) (s t : State), c ≠ .powerOnReset → (∀ w, c ≠ .faultClear w) →
    (∀ o a w, c ≠ .registerWrite o a w) → s.hasFault b = true → exec c s = .next t → t.hasFault b = true

/-- A command that ends no write to host memory leaves every byte of it: all but the resets, which let a notice write
already handed over land, and the commands by which a write of the part ends. (Host memory: assumption log 4; a reset
and a handed notice: 17, a progress write: 36, a meter page or report transfer: 50; MUTES in one step: 9.) -/
def Obligations.OnlyEndsOfWritesReachHostMemory : Prop :=
  ∀ (c : Instr) (s t : State), exec c s = .next t →
    (match c with
      | .powerOnReset | .linkReset | .engineReset | .registerWrite _ _ _ | .cardWriteEnd _ | .mutes _
      | .meterPageWriteEnd _ | .reportTransferEnd _ | .longCardCompletion _ _ | .progressWriteEnd _ | .noticeWriteEnd _ =>
        True
      | _ => ∀ a, t.readHost a = s.readHost a)

/-- The engine moves only as the manual's table has it: to LOADING by a reset, and otherwise by the listed
transitions (R84). -/
def Obligations.EngineMovesOnlyAsListed : Prop :=
  ∀ (c : Instr) (s t : State), Settled s → exec c s = .next t →
    t.engine.state = s.engine.state ∨ (s.engine.state, t.engine.state) ∈ engineMoves
      ∨ (t.engine.state = .loading ∧
          (c = .powerOnReset ∨ c = .linkReset ∨ c = .engineReset
            ∨ ∃ w : Word, c = .registerWrite 4 .word w ∧ w.getLsbD 1 = true))

/-! ### Path keys, gains and the budget -/

/-- The codes of a key name it back, a pair of codes that names no key is one that R7 calls invalid, and key order is
the order of (destination code, source code) (R7, R8). The codes are those of R7: Pn is n, En is n, Tn is 128 + n. -/
def Obligations.KeyCodesNameKeys : Prop :=
  (∀ k : Key, Key.ofCodes k.sourceCode k.destCode = some k)
    ∧ (∀ s d : Nat, Key.ofCodes s d = none ↔
        ¬ ((s < 32 ∨ (128 ≤ s ∧ s < 144)) ∧ (d < 96 ∨ (128 ≤ d ∧ d < 144)) ∧ (128 ≤ d → s < 32)))
    ∧ (∀ a b : Key, a.rank < b.rank ↔
        a.destCode < b.destCode ∨ (a.destCode = b.destCode ∧ a.sourceCode < b.sourceCode))
    ∧ ∀ (p : Fin 32) (e : Fin 96) (t : Fin 16),
      ((Key.pickupToEmitter p e).sourceCode = p.val ∧ (Key.pickupToEmitter p e).destCode = e.val)
        ∧ ((Key.tailToEmitter t e).sourceCode = 128 + t.val ∧ (Key.tailToEmitter t e).destCode = e.val)
        ∧ ((Key.pickupToTail p t).sourceCode = p.val ∧ (Key.pickupToTail p t).destCode = 128 + t.val)

/-- R20: the effective gain is the truncated product, with the sign of the current gain or 0, 0 where a factor is 0,
the current gain where both factors are 256, and never larger in magnitude than the current gain. -/
def Obligations.EffectiveGainNeverExceedsCurrent : Prop :=
  ∀ (c : Int) (f d : Nat), f ≤ 256 → d ≤ 256 →
    effectiveGain c f d = Int.tdiv (c * f * d) 65536
      ∧ (effectiveGain c f d = 0 ∨ (effectiveGain c f d).sign = c.sign)
      ∧ (f = 0 ∨ d = 0 → effectiveGain c f d = 0)
      ∧ (f = 256 → d = 256 → effectiveGain c f d = c)
      ∧ (effectiveGain c f d).natAbs ≤ c.natAbs

/-- The tail stage and the emitter stage on a table (R30, R31, R36): every entry's target by the sum of its
destination. -/
def Obligations.BudgetStagesGiveTargets : Prop :=
  ∀ (b : Budget) (table : List Entry),
    (fullBudget b table).map (fun e => (e.key, e.requested, e.current, e.delay, e.motion, e.lastCue))
        = table.map (fun e => (e.key, e.requested, e.current, e.delay, e.motion, e.lastCue))
      ∧ (∀ e ∈ fullBudget b table, ∀ t, destTail e.key = some t →
          e.target = if tailSum table t ≤ 32768 then e.requested else Int.tdiv (e.requested * 32768) (tailSum table t))
      ∧ (∀ e ∈ fullBudget b table, ∀ em, destEmitter e.key = some em →
          let c := b.ceilings[em]
          let sum := emitterSum (tailStage table) em
          e.target = if c = 0 then 0 else if sum ≤ c * 16384 then e.requested
            else Int.tdiv (e.requested * (c * 16384 : Nat)) sum)
      ∧ (∀ em : Fin 96, (fullClamp b table)[em] =
          if b.ceilings[em] = 0 then (tailStage table).any fun e => intoEmitter em e && decide (e.requested ≠ 0)
          else decide (b.ceilings[em] * 16384 < emitterSum (tailStage table) em))
      ∧ (∀ t : Fin 16, tailSum table t =
          ((table.filter fun e => e.key.destCode == 128 + t.val).map fun e => e.requested.natAbs).sum)
      ∧ ∀ em : Fin 96, emitterSum table em =
          ((table.filter fun e => e.key.destCode == em.val).map fun e => e.requested.natAbs * (match e.key with
            | .tailToEmitter t _ =>
              ((table.filter fun x => x.key.destCode == 128 + t.val).map fun x => x.target.natAbs).sum
            | .pickupToEmitter _ _ | .pickupToTail _ _ => 16384)).sum

/-- A store image written and read back is the image captured (R189): every field at every value its range admits. Bytes
are a good image exactly where the CRC in the last four is that of the 677 before and every field lies in its range,
and the image then has its fields at their places; any other bytes are bad. (The bytes written into an empty slot:
assumption log 10.) -/
def Obligations.StoreImageReadsBack : Prop :=
  (∀ i : Image, i.seq < 4294967296 → i.state ≠ .opened → (∀ e : Fin 96, i.ceilings[e] < 65536) →
    (∀ k : Fin 8, ∀ p, i.slots[k] = some p → p.tap < 256 ∧ 1 ≤ p.delay ∧ p.delay < 65536 ∧ isGain p.gain) →
    (∀ p : Fin 32, i.rings[p].inRange = true) →
    (imageBytes i).length = 681 ∧ imageOfBytes (imageBytes i) = some i)
    ∧ (∀ bs : List Byte, crc32 bs = (bs.foldl (fun c b =>
        Nat.iterate (fun x => if x % 2 = 1 then (x / 2) ^^^ 0xEDB88320 else x / 2) 8 (c ^^^ b.toNat)) 0xFFFFFFFF) ^^^ 0xFFFFFFFF)
    ∧ ∀ b : List Byte,
      ((imageOfBytes b).isSome = true ↔
        field b 677 4 = crc32 (b.take 677) ∧ field b 4 1 ∈ [0, 1, 3]
          ∧ (∀ k : Fin 8, field b (229 + 8 * k.val) 1 = 0
            ∨ (field b (229 + 8 * k.val) 1 = 1 ∧ field b (230 + 8 * k.val) 1 < 40 ∧ 1 ≤ field b (233 + 8 * k.val) 2))
          ∧ ∀ p : Fin 32,
            (257 ≤ field b (293 + 12 * p.val) 2 ∧ field b (293 + 12 * p.val) 2 ≤ 1023)
              ∧ field b (295 + 12 * p.val) 4 ≤ 268435455
              ∧ (1 ≤ field b (300 + 12 * p.val) 1 ∧ field b (300 + 12 * p.val) 1 ≤ 64)
              ∧ field b (301 + 12 * p.val) 2 ≤ 256
              ∧ (1 ≤ field b (303 + 12 * p.val) 2 ∧ field b (303 + 12 * p.val) 2 ≤ 60000))
        ∧ ∀ i, imageOfBytes b = some i →
          i.seq = field b 0 4 ∧ field b 4 1 = (match i.state with | .none => 0 | .locked => 1 | .opened => 2 | .isFixed => 3)
            ∧ (∀ j : Fin 32, i.code[j] = b.getD (5 + j.val) 0)
            ∧ (∀ e : Fin 96, i.ceilings[e] = field b (37 + 2 * e.val) 2)
            ∧ (∀ k : Fin 8, (i.slots[k] = none ↔ field b (229 + 8 * k.val) 1 = 0)
              ∧ ∀ p, i.slots[k] = some p → p.design.val = field b (230 + 8 * k.val) 1 ∧ p.tap = field b (231 + 8 * k.val) 1
                ∧ p.delay = field b (233 + 8 * k.val) 2 ∧ p.gain = field16s b (235 + 8 * k.val))
            ∧ ∀ p : Fin 32, i.rings[p] =
              { rise := field b (293 + 12 * p.val) 2, ringFloor := field b (295 + 12 * p.val) 4,
                cut := field b (299 + 12 * p.val) 1, recovery := field b (300 + 12 * p.val) 1,
                trimFloor := field b (301 + 12 * p.val) 2, hold := field b (303 + 12 * p.val) 2 }

/-! ### Resets, the load and run control -/

/-- The three resets set every unit to its reset values, each written out (R26, R35, R66, R81, R88, R118, R119, R135, R151,
R152, R171, R172, R183); they differ in FAULT alone, which a power-on reset clears (R88). (A handed notice write lands: assumption log 17, R183; a progress write in flight: 36; items that stand until
the load: 2; line GOs not yet taken are dropped: 25; the model's own fields: 14, 28; a handed notice that was to follow
a long card's completion: 42; a meter page or report transfer in flight, none of whose bytes land: 50.) -/
def Obligations.ResetsSetEveryUnit : Prop :=
  ∀ s : State, Settled s →
    exec .linkReset s = exec .engineReset s ∧
    ∃ t u, exec .powerOnReset s = .next t ∧ exec .engineReset s = .next u ∧ u = t.setRegs { t.regs with fault := s.regs.fault }
      ∧ t.regs = { exchangeLow := 0, exchangeHigh := 0, fault := 0 }
      ∧ t.engine = { state := .loading, run := false, startAddr := 0 }
      ∧ t.root = none ∧ t.progress = { seq := 0, inFlight := none, again := false }
      ∧ t.reader = { state := .off, nextTag := 0, scanPos := 0, streak := 0, again := false, finished := false,
                     cardsFinished := 0, hand := none, storeCard := none, snapCard := none }
      ∧ t.stager = { standby := .empty, fade := { cue := 0, remaining := 0, counting := false }, cueCounter := 0, lastCue := 0,
                     goSource := .none, goResult := .ok, goDest := 0, superseded := 0, stray := 0, lineGos := 0 }
      ∧ t.table = [] ∧ t.budget = { s.budget with clamped := Vector.replicate 96 false }
      ∧ t.mix = { clock := false, locks := Vector.replicate 4 false, lockRun := Vector.replicate 4 0,
                  pickupHist := Vector.replicate 32 [], tailHist := Vector.replicate 16 [], block := none, opening := false,
                  emitterClip := Vector.replicate 96 false, tailClip := Vector.replicate 16 false,
                  clipBlocks := Vector.replicate 96 0, formed := Vector.replicate 96 0,
                  formedBefore := Vector.replicate 96 0, lanesOut := some (Vector.replicate 96 0) }
      ∧ t.tails = { s.tails with designs := Vector.replicate 16 none, memory := Vector.replicate 16 [] }
      ∧ (∀ p : Fin 32, t.sup.pickups[p] =
          { state := .disabled, trim := 256, silence := 0, presence := [], rises := [], previous := 0, hold := 0,
            ringCount := 0, muteFlag := false, muteGain := 0, floor := 64, limit := 10000, ring := s.sup.pickups[p].ring })
      ∧ t.sup.emitterFlag = Vector.replicate 96 false ∧ t.sup.emitterGain = Vector.replicate 96 0
      ∧ t.meter = { pickups := Vector.replicate 32 { peak := 0, energy := 0, blocks := 0, clips := 0 },
                    emitters := Vector.replicate 96 { peak := 0, energy := 0, blocks := 0, clips := 0 },
                    interval := 0, hold := none, writer := none, pageSeq := 0, skips := 0 }
      ∧ t.cue = { enable := false, edge := .rising, filter := 0, holdoff := 0, history := [], filtered := none, counter := 0,
                  bounced := 0 }
      ∧ t.notice = { enable := false, vectorCode := 0, mask := 0, pending := Vector.replicate 8 none, queue := [],
                     handed := none }
      ∧ t.due = []
      ∧ t.prot = { s.prot with wrong := 0 } ∧ t.store = { s.store with state := .loading }
      ∧ t.freeIndex = s.freeIndex + (if s.progress.inFlight.isSome then 1 else 0) ∧ t.pending = s.pending
      ∧ t.hostMem =
          (let m := match s.progress.inFlight with
            | none => s.hostMem
            | some x =>
              if s.notice.handed.any (waitsForProgress s) || Config.progressLandsAtReset s.freeIndex then
                s.hostMem.putAll x.addr x.bytes
              else s.hostMem
           match s.notice.handed with
            | none => m
            | some w => m.putAll w.addr (leBytes 4 w.data))

/-- The end of the load (R192): the image's values or the defaults, the state as the fuse decides it, the two FAULT
bits, the store IDLE and the engine STOPPED. A flash that does not answer gives no good image (R189). (The bytes of
an area that does not answer: assumption log 10; that the command changes nothing outside LOADING: 6.) -/
def Obligations.LoadInstallsImageOrDefaults : Prop :=
  (∀ (s : State) (answers : Bool), Settled s → s.engine.state = .loading →
    ∃ t, exec (.storeLoadEnd answers) s = .next t
      ∧ SameOutside [.engine, .store, .prot, .tails, .sup, .budget, .regs, .notice] s t
      ∧ t.engine = { s.engine with state := .stopped } ∧ t.store = { s.store with state := .idle, seq := t.store.seq }
      ∧ t.prot.wrong = 0 ∧ t.prot.fuseBlown = s.prot.fuseBlown
      ∧ t.budget.clamped = s.budget.clamped ∧ t.tails.designs = s.tails.designs ∧ t.tails.memory = s.tails.memory
      ∧ (∀ p : Fin 32, t.sup.pickups[p] = { s.sup.pickups[p] with ring := t.sup.pickups[p].ring })
      ∧ t.sup.emitterFlag = s.sup.emitterFlag ∧ t.sup.emitterGain = s.sup.emitterGain
      ∧ t.regs = { s.regs with fault := t.regs.fault }
      ∧ (s.notice.enable = false → t.notice = s.notice)
      ∧ (match imageOfBytes (if answers then s.store.flash else List.replicate 681 255) with
        | some i =>
          t.budget.ceilings = i.ceilings ∧ t.tails.slots = i.slots ∧ (∀ p : Fin 32, t.sup.pickups[p].ring = i.rings[p])
            ∧ t.store.seq = i.seq ∧ t.prot.code = (if i.state = .none then none else some i.code)
            ∧ t.prot.state = (if s.prot.fuseBlown then .isFixed else if i.state = .isFixed then .locked else i.state)
            ∧ t.regs.fault = (if s.prot.fuseBlown = decide (i.state = .isFixed) then s.regs.fault else s.regs.fault ||| 0x20#6)
            ∧ t.notice = (if s.prot.fuseBlown = decide (i.state = .isFixed) then s
                else setFault .store .protectLoad s).notice
        | none =>
          (∀ e : Fin 96, t.budget.ceilings[e] = 0) ∧ (∀ k : Fin 8, t.tails.slots[k] = none)
            ∧ (∀ p : Fin 32, t.sup.pickups[p].ring =
                { rise := 384, ringFloor := 4096, cut := 128, trimFloor := 32, hold := 500, recovery := 1 })
            ∧ t.store.seq = 0 ∧ t.prot.code = none
            ∧ t.prot.state = (if s.prot.fuseBlown then .isFixed else .none)
            ∧ t.regs.fault = (if s.prot.fuseBlown then s.regs.fault ||| 0x30#6 else s.regs.fault ||| 0x10#6)
            ∧ t.notice = (if s.prot.fuseBlown then setFault .store .protectLoad (setFault .store .store s)
                else setFault .store .store s).notice))
    ∧ (∀ (s : State) (answers : Bool), Settled s → s.engine.state ≠ .loading → exec (.storeLoadEnd answers) s = .next s)
    ∧ imageOfBytes (List.replicate 681 255) = none

/-- The RUN field written, by engine state (R84 to R87). Written 0 in RUNNING the engine enters STOPPING, the reader
goes OFF unless a card is in hand, with the progress record written where its sweep finished a card (R171), with the
clock absent every emitter mute gain is set to 0, and with the reader OFF and the gains 0 or the clock absent the
engine is STOPPED at once. (That STOPPING ends in the same step: assumption log 27; that a slot read in flight is dropped: 46; its
note that a sweep finished a card: 28.) -/
def Obligations.RunFieldWrites : Prop :=
  (∀ s : State, Settled s →
    exec .runStart s = .next
      (match s.engine.state, s.engine.run with
        | .stopped, false =>
          s.setEngine { state := .starting, run := true,
                        startAddr := s.regs.exchangeHigh.toNat * 2 ^ 32 + s.regs.exchangeLow.toNat }
        | .starting, _ | .stopping, _ => s.setEngine { s.engine with run := true }
        | .stopped, true | .loading, _ | .running, _ => s))
    ∧ ((∀ s : State, Settled s → s.engine.state = .loading → exec .runStop s = .next s)
    ∧ (∀ s : State, Settled s → s.engine.state = .stopped ∨ s.engine.state = .starting ∨ s.engine.state = .stopping →
        exec .runStop s = .next (s.setEngine { s.engine with run := false }))
    ∧ ∀ s : State, Settled s → s.engine.state = .running →
        ∃ t, exec .runStop s = .next t
          ∧ t.reader = (match s.reader.state with
              | .off => s.reader
              | .idle | .halted => { s.reader with state := .off, again := false }
              | .sweeping =>
                if s.reader.hand.isSome then s.reader
                else { s.reader with state := .off, again := false, finished := false })
          ∧ t.sup = (if s.mix.clock then s.sup else { s.sup with emitterGain := Vector.replicate 96 0 })
          ∧ t.engine = { s.engine with
              run := false
              state := if t.reader.state = .off ∧ (s.mix.clock = false ∨ ∀ e : Fin 96, s.sup.emitterGain[e] = 0)
                then .stopped else .stopping }
          ∧ t.progress = (if s.reader.state = .sweeping ∧ s.reader.hand = none ∧ s.reader.finished = true
              then (progressOccasion (s.setEngine { s.engine with state := .stopping, run := false })).progress else s.progress)
          ∧ SameOutside [.engine, .reader, .sup, .progress] s t)

/-- STOPPING ends with the reader OFF and every emitter mute gain 0 or the clock absent; with RUN 1 the engine passes
at once to STARTING (R87). So it does at the block end at which the last emitter mute gain reaches 0, whatever ends are
due at that block end, and the next block begins with it (R90). (That the ends due are taken first: assumption log 44;
that every later command finds STOPPING ended: 27; the mark that a block waits to begin: 28.) -/
def Obligations.StoppingEndsInStoppedOrStarting : Prop :=
  (∀ s : State, s.due = [] → s.engine.state = .stopping → s.reader.state = .off →
    s.mix.clock = false ∨ (∀ e : Fin 96, s.sup.emitterGain[e] = 0) →
    let t := s.setEngine
      (if s.engine.run then { state := .starting, run := true,
                              startAddr := s.regs.exchangeHigh.toNat * 2 ^ 32 + s.regs.exchangeLow.toNat }
        else { s.engine with state := .stopped })
    exec .stoppingEnd s = .next (if s.mix.opening then openBlock t else t))
    ∧ (∀ s : State, exec .stoppingEnd s = .next (settle s))
    ∧ ∀ (s : State) (b : Block), Settled s → s.engine.state = .stopping → s.reader.state = .off → s.mix.clock = true →
      s.mix.block = some b → 48 ≤ b.index → (∀ e : Fin 96, s.sup.emitterGain[e] ≤ 32) →
      ∃ t u, exec .blockEnd s = .next t ∧ t.engine = s.engine ∧ t.mix.opening = true
        ∧ exec .stoppingEnd t = .next u ∧ u.mix.opening = false ∧ u.mix.block.map Block.index = some 0
        ∧ (∀ e : Fin 96, u.sup.emitterGain[e] = 0)
        ∧ u.engine = (if s.engine.run then
            { state := .starting, run := true,
              startAddr := s.regs.exchangeHigh.toNat * 2 ^ 32 + s.regs.exchangeLow.toNat }
          else { s.engine with state := .stopped })

/-- The end of the root read in STARTING (R86, R163): RUNNING with the root's values, STOPPED where RUN is 0, or
STOPPED with FAULT.ROOT and no root held; a root is valid exactly where none of R163's conditions holds, its values
are those of the record's fields (R174), and a failed read gives none. -/
def Obligations.RootReadEndsStarting : Prop :=
  (∀ a : Nat, Root.ofRead a none = none ∧ ∀ v : Vector Byte 64,
    ((Root.ofRead a (some v)).isSome = true ↔
      (v[0] = 0x52 ∧ v[1] = 0x51 ∧ v[2] = 0x58 ∧ v[3] = 0x31)
        ∧ 1 ≤ field v.toList 4 2 ∧ field v.toList 4 2 ≤ 256 ∧ 1 ≤ field v.toList 32 2 ∧ field v.toList 32 2 ≤ 10000
        ∧ field v.toList 34 2 ≤ 60000 ∧ field v.toList 8 8 % 64 = 0 ∧ field v.toList 16 8 % 64 = 0
        ∧ field v.toList 24 8 % 4 = 0)
      ∧ ∀ r, Root.ofRead a (some v) = some r →
        r.addr = a ∧ r.slotCount = field v.toList 4 2 ∧ r.firstTag = field v.toList 6 2 ∧ r.cardTable = field v.toList 8 8
          ∧ r.meterPage = field v.toList 16 8 ∧ r.noticeAddr = field v.toList 24 8 ∧ r.sweepInterval = field v.toList 32 2
          ∧ r.meterInterval = field v.toList 34 2 ∧ r.noticeBase = field v.toList 36 2) ∧
  ∀ (s : State) (data : LinkRead 64), Settled s → s.engine.state = .starting →
    ∃ t, exec (.rootReadEnd data) s = .next t
      ∧ SameOutside [.engine, .root, .regs, .notice, .reader, .meter] s t
      ∧ (match Root.ofRead s.engine.startAddr data with
        | none =>
          t.engine = { s.engine with state := .stopped, run := false } ∧ t.root = none ∧ t.reader = s.reader
            ∧ t.meter = s.meter ∧ t.regs = { s.regs with fault := s.regs.fault ||| 2#6 }
            ∧ t.notice = (setFault .linkPort .root (s.setRoot none)).notice
        | some r =>
          if s.engine.run then
            t.engine = { s.engine with state := .running } ∧ t.root = some r ∧ t.regs = s.regs
              ∧ t.reader = { s.reader with
                  state := .idle, nextTag := r.firstTag, scanPos := 0, streak := 0, again := false, finished := false,
                  hand := none }
              ∧ t.meter = { s.meter with interval := 0 } ∧ t.notice = s.notice.flush (some r)
          else t = s.setEngine { s.engine with state := .stopped })

/-! ### Registers -/

/-- The other fields of CONTROL: NOTICE ENABLE and VECTOR COUNT keep their values while LOADING and take the value
written otherwise, disabling clears every pending vector (R85, R161, R182); SWEEP NOW acts by reader state, and so
does the sweep timer's expiry, which counts in IDLE only (R165). (In the other states the timer does not run and no expiry
comes; that the command then changes nothing is the model's choice: assumption log 6.) -/
def Obligations.ControlFieldWrites : Prop :=
  ∀ (s : State) (on : Bool) (code : BitVec 2), Settled s →
    exec (.noticeEnable on) s = .next
        (if s.engine.state = .loading then s
          else if on then s.setNotice { s.notice with enable := true }
          else s.setNotice { s.notice with enable := false, pending := Vector.replicate 8 none })
      ∧ exec (.vectorCount code) s = .next
        (if s.engine.state = .loading then s else s.setNotice { s.notice with vectorCode := code })
      ∧ exec .sweepNow s = .next
        (match s.reader.state with
          | .off => s
          | .idle | .halted => s.setReader { s.reader with state := .sweeping, streak := 0, finished := false }
          | .sweeping => s.setReader { s.reader with again := true })
      ∧ exec .sweepTimerExpiry s = .next
        (if s.reader.state = .idle then s.setReader { s.reader with state := .sweeping, streak := 0, finished := false } else s)

/-- FAULT written: each bit written 1 is cleared and every other bit stands (R162); NOTICE MASK takes bits 7 to 0 and
unmasked pending vectors go out (R160, R182). -/
def Obligations.FaultAndMaskWrites : Prop :=
  ∀ (s : State) (w : Word), Settled s →
    (∃ t, exec (.faultClear w) s = .next t ∧ t = s.setRegs { s.regs with fault := t.regs.fault }
      ∧ ∀ b : FaultBit, t.hasFault b = (s.hasFault b && !w.getLsbD b.num))
      ∧ exec (.noticeMaskWrite w) s = .next
        (s.setNotice (NoticeUnit.flush s.root { s.notice with mask := w.setWidth 8 }))

/-- A write in the register window (R160, R161): EXCHANGE LOW with bits 5 to 0 as 0, EXCHANGE HIGH, NOTICE MASK and
FAULT as their commands, CONTROL with every field together or the reset alone, and every other offset and every
narrow access dropped; and what a read of it returns. (The order of the fields of one CONTROL write is the model's:
assumption log 7; the read function: 30.) -/
def Obligations.RegisterWindow : Prop :=
  (∀ (s : State) (offset : Nat) (width : AccessWidth) (w : Word), Settled s →
    exec (.registerWrite offset width w) s =
      if width = .word ∧ offset = 0x0C then
        .next (s.setRegs { s.regs with exchangeLow := w &&& 0xFFFFFFC0#32 })
      else if width = .word ∧ offset = 0x10 then .next (s.setRegs { s.regs with exchangeHigh := w })
      else if width = .word ∧ offset = 0x14 then exec (.noticeMaskWrite w) s
      else if width = .word ∧ offset = 0x18 then exec (.faultClear w) s
      else if width = .word ∧ offset = 0x04 then
        (if w.getLsbD 1 then exec .engineReset s
          else .next
            (let t := writeVectorCount (w.extractLsb' 4 2) (writeNoticeEnable (w.getLsbD 2) s)
             let u := if w.getLsbD 0 then writeRun1 t else writeRun0 t
             if w.getLsbD 8 then sweepNow u else u))
      else .next s)
    ∧ ∀ (s : State) (offset : Nat) (width : AccessWidth), Settled s →
        (width ≠ .word → readRegister offset width s = 0)
          ∧ readRegister 0x00 .word s = 0x56A33296
          ∧ readRegister 0x0C .word s = s.regs.exchangeLow ∧ readRegister 0x10 .word s = s.regs.exchangeHigh
          ∧ readRegister 0x14 .word s = s.notice.mask.setWidth 32 ∧ readRegister 0x18 .word s = s.regs.fault.setWidth 32
          ∧ (offset ∉ [0x00, 0x04, 0x08, 0x0C, 0x10, 0x14, 0x18] → readRegister offset width s = 0)
          ∧ (let c := readRegister 0x04 .word s
             c.getLsbD 0 = s.engine.run ∧ c.getLsbD 2 = s.notice.enable ∧ c.extractLsb' 4 2 = s.notice.vectorCode
              ∧ ∀ i, i < 32 → i ≠ 0 → i ≠ 2 → i ≠ 4 → i ≠ 5 → c.getLsbD i = false)
          ∧ (let c := readRegister 0x08 .word s
             c.extractLsb' 0 3 = BitVec.ofNat 3 s.engine.state.code ∧ c.extractLsb' 4 2 = BitVec.ofNat 2 s.reader.state.code
              ∧ c.extractLsb' 6 2 = BitVec.ofNat 2 s.store.state.code ∧ c.getLsbD 8 = s.mix.clock
              ∧ (∀ l : Fin 4, c.getLsbD (9 + l.val) = s.mix.locks[l])
              ∧ (∀ v : Fin 8, c.getLsbD (16 + v.val) = s.notice.pending[v].isSome) ∧ c.extractLsb' 24 8 = 0x02#8)

/-! ### Notices -/

/-- A raising by enable, pending set, root and mask (R180), on the vector min(k, n - 1) of its kind (R179), with the
writes in flight that its unit has issued before it (R181; which units issue which, assumption log 18; that a write only noted is not issued: 47); an event
that sets a bit of FAULT raises FAULT where the bit was clear and changes nothing where it was set (R162); and
pending vectors with their mask bits clear go out in ascending order as far as the queue has room, the first of them
handed on where the link port is idle, and the rest stay pending (R180, R181, R182). (The room: assumption log 17.) -/
def Obligations.RaisingAndPending : Prop :=
  (∀ (b : Raiser) (k : NoticeKind) (s : State),
    let v := vectorOf s.notice.vectorCode k
    let x : Raising :=
      { kind := k
        after := if (b = .reader ∨ b = .stager ∨ b = .linkPort) ∧ s.progress.inFlight.isSome = true then some s.progress.seq
          else none
        longs := if b = .linkPort then
            (if (s.reader.storeCard.bind LongCard.outcome).isSome then [.store] else [])
              ++ (if (s.reader.snapCard.bind LongCard.outcome).isSome then [.snapshot] else [])
          else [] }
    v.val = min k.num (2 ^ s.notice.vectorCode.toNat - 1)
      ∧ (s.notice.enable = false → raise b k s = s)
      ∧ (s.notice.enable = true → s.notice.pending[v].isSome = true → raise b k s = s)
      ∧ (s.notice.enable = true → s.notice.pending[v] = none →
          s.root = none ∨ s.notice.mask.getLsbD v = true ∨ 16 ≤ s.notice.queue.length →
          raise b k s = s.setNotice { s.notice with pending := s.notice.pending.set v (some x) })
      ∧ (∀ r, s.notice.enable = true → s.notice.pending[v] = none → s.root = some r → s.notice.mask.getLsbD v = false →
          s.notice.queue.length < 16 →
          let w : NoticeWrite := { addr := r.noticeAddr, data := r.noticeBase + v.val, raising := x }
          raise b k s = s.setNotice { s.notice with queue := s.notice.queue ++ [w] }.handOn))
    ∧ ([FaultBit.memory, .root, .clock, .lane, .store, .protectLoad].map FaultBit.num = [0, 1, 2, 3, 4, 5])
    ∧ ([NoticeKind.card, .cue, .fade, .ring, .pickup, .clip, .meters, .fault].map NoticeKind.num = [0, 1, 2, 3, 4, 5, 6, 7])
    ∧ (∀ (b : Raiser) (f : FaultBit) (s : State),
      setFault b f s = (if s.regs.fault.getLsbD f.num then s
        else raise b .fault (s.setRegs { s.regs with fault := s.regs.fault ||| (1#6 <<< f.num) }))
      ∧ ∀ g : FaultBit, (setFault b f s).hasFault g = (s.hasFault g || decide (g = f)))
    ∧ (∀ (u : NoticeUnit) (o : Option Root), u.goOn o = u.handOn.flush o
      ∧ (u.enable = false ∨ o = none → u.flush o = u)
      ∧ u.handOn = (match u.handed, u.queue with
          | none, w :: ws => { u with handed := some w, queue := ws }
          | _, _ => u))
    ∧ ∀ (u : NoticeUnit) (r : Root), u.enable = true → (u.handed = none → u.queue = []) →
        let t := u.flush (some r)
        let out : List (Fin 8) := (List.finRange 8).filter fun v => u.pending[v].isSome && !u.mask.getLsbD v
        let went := out.take (if u.handed.isSome then 16 - u.queue.length else 17)
        (t.handed.toList ++ t.queue).map (fun w => (w.addr, w.data, some w.raising))
            = (u.handed.toList ++ u.queue).map (fun w => (w.addr, w.data, some w.raising))
              ++ went.map (fun v => (r.noticeAddr, r.noticeBase + v.val, u.pending[v]))
          ∧ (u.handed.isSome = true → t.handed = u.handed) ∧ (t.handed = none → t.queue = [])
          ∧ (∀ v : Fin 8, t.pending[v] = if v ∈ went then none else u.pending[v])
          ∧ t = { u with pending := t.pending, queue := t.queue, handed := t.handed }

/-- The end of a notice write (R181): it does not come while a progress record write or a long card's completion that
its raising unit issued before it is in flight; otherwise the write lands in 4 bytes at the notice address, or is lost
with FAULT.MEMORY set, which raises FAULT where the bit was clear and the write was no FAULT notice; and the queue goes
on. (Which writes a notice waits for, and the order after a failure, are the model's: assumption log 17, 18;
so are that the notice unit raises the FAULT of a failed write: 49; and that a failed write leaves host memory as it was: 4.) -/
def Obligations.NoticeWriteEnds : Prop :=
  ∀ (s : State) (w : NoticeWrite), Settled s → s.notice.handed = some w →
    let waits := (w.raising.after = some s.progress.seq ∧ s.progress.inFlight.isSome = true)
      ∨ (.store ∈ w.raising.longs ∧ (s.reader.storeCard.bind LongCard.outcome).isSome = true)
      ∨ (.snapshot ∈ w.raising.longs ∧ (s.reader.snapCard.bind LongCard.outcome).isSome = true)
    (waits → ∀ ok, exec (.noticeWriteEnd ok) s = .next s) ∧ (¬ waits →
    exec (.noticeWriteEnd true) s = .next
        ((s.setHostMem (s.hostMem.putAll w.addr (leBytes 4 w.data))).setNotice
          (NoticeUnit.goOn s.root { s.notice with handed := none }))
      ∧ ∃ t, exec (.noticeWriteEnd false) s = .next t ∧ SameOutside [.regs, .notice] s t
        ∧ t.regs = { s.regs with fault := s.regs.fault ||| 1#6 }
        ∧ t.notice = NoticeUnit.goOn s.root
            (if w.raising.kind = .fault ∨ s.hasFault .memory = true then { s.notice with handed := none }
              else (raise .notice .fault (s.setNotice { s.notice with handed := none })).notice))

/-- The end of a progress record write (R172): its 64 bytes land or FAULT.MEMORY is set, and occasions that came
during it cause one further write; an occasion begins one 64-byte write to bytes 64 to 127 of the root held with the
next record sequence, is noted during a write, and makes none where no root is held; the fields of the record are at
their places (R174, offsets counted from byte 64). (Values taken as they stand at the occasion; FAULT of
a failed write raised before the further write begins: assumption log 40; that a failed write leaves host memory as it was: 4; that
a further write is not begun where the root has been discarded meanwhile: 48.) -/
def Obligations.ProgressRecordWrites : Prop :=
  (∀ (s : State) (x : Transfer), Settled s → s.progress.inFlight = some x →
    let done := fun t : State => t.setProgress { s.progress with inFlight := none, again := false }
    let next := fun t : State => if s.progress.again then progressOccasion t else t
    exec (.progressWriteEnd true) s = .next (next (done (s.setHostMem (s.hostMem.putAll x.addr x.bytes))))
      ∧ exec (.progressWriteEnd false) s = .next (next (setFault .linkPort .memory (done s))))
    ∧ (∀ s : State,
        (s.root = none → progressOccasion s = s)
          ∧ (∀ r x, s.root = some r → s.progress.inFlight = some x →
              progressOccasion s = s.setProgress { s.progress with again := true })
          ∧ ∀ r, s.root = some r → s.progress.inFlight = none →
              progressOccasion s = s.setProgress
                { seq := (s.progress.seq + 1) % 4294967296
                  inFlight := some { addr := r.addr + 64, bytes := progressBytes s ((s.progress.seq + 1) % 4294967296) }
                  again := false })
    ∧ (∀ (m : HostMem) (a : Nat) (bs : List Byte), a + bs.length ≤ 2 ^ 64 →
        (∀ i, i < bs.length → (m.putAll a bs).read (a + i) = bs[i]?)
          ∧ ∀ b, b < a ∨ a + bs.length ≤ b → (m.putAll a bs).read b = m.read b)
    ∧ ([EngineState.loading, .stopped, .starting, .running, .stopping].map EngineState.code = [0, 1, 2, 3, 4]
        ∧ [ReaderState.off, .idle, .sweeping, .halted].map ReaderState.code = [0, 1, 2, 3]
        ∧ [GoSource.none, .card, .line].map GoSource.code = [0, 1, 2]
        ∧ [ProtState.none, .locked, .opened, .isFixed].map ProtState.code = [0, 1, 2, 3]
        ∧ [some Level.low, some .high, none].map levelCode = [0, 1, 2]
        ∧ (∀ x : Standby, x.code = match x with | .empty => 0 | .building _ => 1 | .ready _ _ => 2)
        ∧ ∀ x : StoreState, x.code = match x with | .idle => 0 | .loading => 1 | .writing _ _ => 2)
    ∧ ∀ (s : State) (seq : Nat),
        (progressBytes s seq).length = 64
          ∧ ∀ x ∈ [(0, 1, s.engine.state.code), (1, 1, s.reader.state.code), (2, 2, s.reader.nextTag),
              (4, 4, s.reader.cardsFinished), (8, 2, s.stager.cueCounter), (10, 2, s.stager.lastCue),
              (12, 1, s.stager.goSource.code), (13, 1, s.stager.goResult.code), (14, 1, s.stager.goDest),
              (15, 1, s.stager.standby.code), (16, 2, s.stager.standby.items.length), (18, 2, s.table.length),
              (20, 2, s.stager.fade.cue), (22, 2, s.stager.fade.remaining), (24, 4, s.stager.superseded),
              (28, 4, s.stager.stray), (32, 4, s.cue.bounced), (36, 4, s.meter.skips), (40, 1, s.prot.state.code),
              (41, 1, levelCode s.cue.filtered), (42, 1, s.store.state.code), (43, 1, 0), (44, 4, seq), (48, 16, 0)],
            field (progressBytes s seq) x.1 x.2.1 = x.2.2 % 256 ^ x.2.1

/-! ### Clock, lanes and samples -/

/-- The loss of the word clock (R91): ABSENT, FAULT.CLOCK set, the block in progress abandoned, every lane UNLOCKED
without FAULT.LANE, no frames (but 0 while LOADING: assumption log 34); histories, tail memories, clip flags and
counts stand; a STOPPING engine whose reader is OFF enters STOPPED, or STARTING with RUN 1 (R87; that it does so in
the same step: 27). While ABSENT no loss can come, and the command changes nothing (6). -/
def Obligations.ClockLossAbandonsTheBlock : Prop :=
  ∀ s : State, Settled s →
    (s.mix.clock = false → exec .clockLoss s = .next s)
      ∧ (s.mix.clock = true → ∃ t, exec .clockLoss s = .next t
        ∧ t.mix = { s.mix with
            clock := false, locks := Vector.replicate 4 false, lockRun := Vector.replicate 4 0, block := none,
            opening := false,
            lanesOut := if s.engine.state = .loading then some (Vector.replicate 96 0) else none }
        ∧ t.regs = { s.regs with fault := s.regs.fault ||| 4#6 } ∧ t.notice = (setFault .mix .clock s).notice
        ∧ t.engine = (if s.engine.state = .stopping ∧ s.reader.state = .off then
            (if s.engine.run then { state := .starting, run := true,
                                    startAddr := s.regs.exchangeHigh.toNat * 2 ^ 32 + s.regs.exchangeLow.toNat }
              else { s.engine with state := .stopped }) else s.engine)
        ∧ SameOutside [.mix, .engine, .regs, .notice] s t)

/-- The return of the word clock (R92), the first after a reset included (R89): PRESENT, every history and delay
memory at 0, every emitter mute gain 0, lock acquisition restarted; everything else stands, FAULT included. What the
first two frames carry is free (assumption log 14). While PRESENT no return can come, and the command changes nothing
(6). -/
def Obligations.ClockReturnClearsHistories : Prop :=
  ∀ s : State, Settled s →
    exec .clockReturn s = .next
      (if s.mix.clock then s
        else (((s.setTails { s.tails with memory := Vector.replicate 16 [] }).setMix
          { s.mix with
            clock := true, locks := Vector.replicate 4 false, lockRun := Vector.replicate 4 0,
            pickupHist := Vector.replicate 32 [], tailHist := Vector.replicate 16 [], block := none,
            opening := false, formed := unstatedFrame s.freeIndex,
            formedBefore := unstatedFrame (s.freeIndex + 1) }).setFreeIndex (s.freeIndex + 2)).setSup
              { s.sup with emitterGain := Vector.replicate 96 0 })

/-- A lane locks after its marker has been found in 48 consecutive periods; a LOCKED lane that loses its marker is
UNLOCKED and sets FAULT.LANE, and no other lane moves (R93, R94); each period judges each lane's marker once, and
sets FAULT.LANE where a lane that is or has just become LOCKED misses it. (That periods are counted by sample
commands is the model's: assumption log 8; that LANE_LOCK before 48 periods and LANE_LOSS of an UNLOCKED lane change
nothing: 6.) -/
def Obligations.LanesLockAndLose : Prop :=
  (∀ (s : State) (l : Fin 4), Settled s → s.mix.clock = true →
    (s.engine.state ≠ .loading → s.mix.locks[l] = false → 48 ≤ s.mix.lockRun[l] →
        exec (.laneLock l) s = .next
          (s.setMix { s.mix with locks := s.mix.locks.set l true, lockRun := s.mix.lockRun.set l 0 }))
      ∧ (s.mix.lockRun[l] < 48 → exec (.laneLock l) s = .next s)
      ∧ (s.mix.locks[l] = true → ∃ t, exec (.laneLoss l) s = .next t
        ∧ t.mix = { s.mix with locks := s.mix.locks.set l false, lockRun := s.mix.lockRun.set l 0 }
        ∧ t.regs = { s.regs with fault := s.regs.fault ||| 8#6 } ∧ t.notice = (setFault .mix .lane s).notice
        ∧ SameOutside [.mix, .regs, .notice] s t)
      ∧ (s.mix.locks[l] = false → exec (.laneLoss l) s = .next s))
    ∧ ∀ (s : State) (m : BitVec 4),
        let missed := ∃ l : Fin 4, (s.mix.locks[l] = true ∨ 48 ≤ s.mix.lockRun[l]) ∧ m.getLsbD l = false
        (∀ l : Fin 4, (judgeLanes m s).mix.locks[l] = (m.getLsbD l && (s.mix.locks[l] || decide (48 ≤ s.mix.lockRun[l])))
          ∧ (s.mix.locks[l] = false → s.mix.lockRun[l] < 48 →
              (judgeLanes m s).mix.lockRun[l] = if m.getLsbD l then s.mix.lockRun[l] + 1 else 0))
          ∧ (missed → (judgeLanes m s).regs = { s.regs with fault := s.regs.fault ||| 8#6 }
              ∧ (judgeLanes m s).notice = (setFault .mix .lane s).notice)
          ∧ (¬ missed → (judgeLanes m s).regs = s.regs ∧ (judgeLanes m s).notice = s.notice)

/-- One word-clock period with its sample (R90, R95 to R100, R106, R107), in the block in progress or in the one that
begins with it: a block begins with the effective gains, delays, designs and slots that stand (R18 to R21, R79, R108,
R130), at the first period and at each block end (R90); the pickup histories and the delay memories take their
newest sample and keep the rest, tail outputs enter the tail histories, and each emitter forms its rounded and
saturated sum from the block's gains; the block's measures and saturation indicators take the sample (R99, R100);
the frame sent carries what was formed two samples before, emitter 16K + j on channel j of lane K (R94). A sum is
rounded to nearest with halves upward and saturated to the sample range (R1, R96, R97, R107); its terms are each
entry's source history at the entry's delay times its gain (R95 to R97), or the delay memory at each effective tap
times the tap's gain, where a tap is the lowest slot's that names it, else the library's (R105, R107, R108). (Frames
after a clock return: assumption log 14; the library's taps: 3.) -/
def Obligations.SampleFormsTailsAndEmitters : Prop :=
  (∀ s : State,
    let heard := fun p : Fin 32 => match s.sup.pickups[p].state with
      | .live | .ringing => s.sup.pickups[p].trim * s.sup.pickups[p].muteGain / 256
      | .disabled | .silent => 0
    let source := fun k : Key => match k with
      | .pickupToEmitter p _ | .pickupToTail p _ => heard p
      | .tailToEmitter _ _ => 256
    let dest := fun k : Key => match k with
      | .pickupToEmitter _ e | .tailToEmitter _ e => s.sup.emitterGain[e]
      | .pickupToTail _ _ => 256
    openBlock s = s.setMix { s.mix with
      opening := false
      block := some
        { index := 0
          start :=
            { entries := s.table.map fun e =>
                { key := e.key, delay := e.delay, gain := Int.tdiv (e.current * source e.key * dest e.key) 65536 }
              designs := s.tails.designs
              slots := s.tails.slots }
          pickups := Vector.replicate 32 { peak := 0, squares := 0 }
          emitters := Vector.replicate 96 { peak := 0, squares := 0 }
          emitterSat := Vector.replicate 96 false
          tailSat := Vector.replicate 16 false } })
    ∧ (∀ s : State, s.due = [] → s.mix.opening = true → stoppingDone s = false → settle s = openBlock s)
    ∧ (∀ (s : State) (lanes : Vector LaneWord 32) (markers : BitVec 4) (b : Block), Settled s → s.mix.clock = true →
    s.engine.state ≠ .loading →
    (s.mix.block = some b ∧ b.index < 48) ∨ (s.mix.block = none ∧ (openBlock s).mix.block = some b) →
    let live := decide (s.engine.state = .running ∨ s.engine.state = .stopping)
    let sent : Frame := if live then s.mix.formedBefore else Vector.replicate 96 0
    let outside := fun x : Int => decide (x < -8388608 ∨ 8388607 < x)
    let measured := fun (x : Int) (m : Measure) =>
      ({ peak := max m.peak (min x.natAbs 8388607), squares := m.squares + x.natAbs * x.natAbs } : Measure)
    ∃ t c, exec (.sampleComputation lanes markers) s = .next t ∧ t.mix.block = some c
      ∧ (∀ p : Fin 32, sampleAt t.mix.pickupHist[p] 0 = (if t.mix.locks[laneOf p] then lanes[p].toInt else 0)
          ∧ (laneOf p).val = p.val / 8
          ∧ ∀ d, d < 4800 → sampleAt t.mix.pickupHist[p] (d + 1) = sampleAt s.mix.pickupHist[p] d)
      ∧ (∀ k : Fin 16, sampleAt t.tails.memory[k] 0
            = saturate (roundSum (mixSum t.mix (fun x => decide (destTail x = some k)) b.start.entries))
          ∧ ∀ d, d < 65535 → sampleAt t.tails.memory[k] (d + 1) = sampleAt s.tails.memory[k] d)
      ∧ (∀ k : Fin 16, sampleAt t.mix.tailHist[k] 0
            = (match b.start.designs[k] with
              | none => 0
              | some d => saturate (roundSum (tapSum (effectiveTaps b.start.slots d) t.tails.memory[k])))
          ∧ ∀ d, d < 4800 → sampleAt t.mix.tailHist[k] (d + 1) = sampleAt s.mix.tailHist[k] d)
      ∧ (∀ e : Fin 96, t.mix.formed[e] =
          if live then saturate (roundSum (mixSum t.mix (fun x => decide (destEmitter x = some e)) b.start.entries)) else 0)
      ∧ c.index = b.index + 1 ∧ c.start = b.start
      ∧ (∀ p : Fin 32, c.pickups[p] = measured (sampleAt t.mix.pickupHist[p] 0) b.pickups[p])
      ∧ (∀ e : Fin 96, c.emitters[e] = measured t.mix.formed[e] b.emitters[e]
          ∧ c.emitterSat[e] = (b.emitterSat[e]
            || (live && outside (roundSum (mixSum t.mix (fun x => decide (destEmitter x = some e)) b.start.entries)))))
      ∧ (∀ k : Fin 16, c.tailSat[k] = (b.tailSat[k]
            || outside (roundSum (mixSum t.mix (fun x => decide (destTail x = some k)) b.start.entries))
            || (match b.start.designs[k] with
              | none => false
              | some d => outside (roundSum (tapSum (effectiveTaps b.start.slots d) t.tails.memory[k])))))
      ∧ t.mix.formedBefore = s.mix.formed ∧ t.mix.lanesOut = some sent
      ∧ (∀ (k : Fin 6) (j : Fin 16) (e : Fin 96), e.val = 16 * k.val + j.val →
          t.mix.outputLanes.map (fun o => o[k][j]) = some (BitVec.ofInt 24 sent[e]))
      ∧ t.mix.locks = (judgeLanes markers s).mix.locks ∧ t.mix.lockRun = (judgeLanes markers s).mix.lockRun
      ∧ t.regs = (judgeLanes markers s).regs ∧ t.notice = (judgeLanes markers s).notice
      ∧ t.tails = { s.tails with memory := t.tails.memory } ∧ t.mix.clock = true ∧ t.mix.opening = false
      ∧ t.mix.emitterClip = s.mix.emitterClip ∧ t.mix.tailClip = s.mix.tailClip ∧ t.mix.clipBlocks = s.mix.clipBlocks
      ∧ SameOutside [.tails, .mix, .regs, .notice] s t)
    ∧ (∀ acc : Int, roundSum acc * 16384 ≤ acc + 8192 ∧ acc + 8192 < (roundSum acc + 1) * 16384
      ∧ saturate acc = max (-8388608) (min 8388607 acc))
    ∧ (∀ (h : List Int) (d : Nat), sampleAt h d = h.getD d 0)
    ∧ (∀ (m : Mix) (test : Key → Bool) (es : List MixEntry),
      mixSum m test es = ((es.filter fun e => test e.key).map fun e =>
        (match e.key with
          | .pickupToEmitter p _ => sampleAt m.pickupHist[p] e.delay
          | .pickupToTail p _ => sampleAt m.pickupHist[p] e.delay
          | .tailToEmitter t _ => sampleAt m.tailHist[t] e.delay) * e.gain).sum)
    ∧ (∀ (p : Fin 32) (e : Fin 96) (t : Fin 16), destEmitter (.pickupToEmitter p e) = some e
      ∧ destEmitter (.tailToEmitter t e) = some e ∧ destEmitter (.pickupToTail p t) = none
      ∧ destTail (.pickupToTail p t) = some t ∧ destTail (.pickupToEmitter p e) = none ∧ destTail (.tailToEmitter t e) = none)
    ∧ (∀ (taps : List Tap) (memory : List Int),
      tapSum taps memory = (taps.map fun t => sampleAt memory t.delay * t.gain).sum)
    ∧ ∀ (slots : Vector (Option Patch) 8) (d : Fin 40) (k : Nat),
      let named := fun (i : Fin 8) (p : Patch) => slots[i] = some p ∧ p.design = d ∧ p.tap = k
      (effectiveTaps slots d).length = tapCount d
        ∧ (k < tapCount d → ∃ x, (effectiveTaps slots d)[k]? = some x
          ∧ (∀ i p, named i p → (∀ j q, j < i → ¬ named j q) → x = { delay := p.delay, gain := p.gain })
          ∧ ((∀ i p, ¬ named i p) → x = libraryTap d k ∧ 1 ≤ x.delay ∧ x.delay ≤ span d ∧ isGain x.gain))

/-- The block end (R90): every movement that does not end advances a step (R69, R72, R73), every mute gain moves by
32 toward its aim (R80), the fade record and the holdoff count (R60, R156), each pickup acts on its measures (R121),
the meter unit accumulates while RUNNING (R142, R143), the clip flags and counts take the block's indicators (R100),
RING and PICKUP are raised by the pickups and CLIP once where a clip flag is newly set (R100, R140), and the ends
that fall at it become due. (The list of due ends, and their order, are the model's: assumption log 1; the order of the
notices: 20; the mark that a block waits to begin: 28.) -/
def Obligations.BlockEndCountsInEveryUnit : Prop :=
  ∀ (s : State) (b : Block), Settled s → s.mix.clock = true → s.engine.state ≠ .loading → s.mix.block = some b →
    48 ≤ b.index →
    let move := fun aim g : Nat => if g < aim then min aim (g + 32) else if aim < g then max aim (g - 32) else g
    let heard := fun p : Fin 32 => (b.pickups[p].peak, b.pickups[p].squares / 16777216)
    let moved := fun p : Fin 32 =>
      { s.sup.pickups[p] with muteGain := move (if s.sup.pickups[p].muteFlag then 0 else 256) s.sup.pickups[p].muteGain }
    let added := fun (m : Measure) (clips : Nat) (a : Accum) =>
      ({ peak := max a.peak m.peak, energy := min 1099511627775 (a.energy + m.squares / 16777216),
         blocks := min 65535 (a.blocks + 1), clips := clips } : Accum)
    let kinds : List NoticeKind :=
      (List.finRange 32).filterMap (fun p => match ((moved p).blockEnd (heard p)).2 with
        | .rang => some .ring
        | .returned => some .pickup
        | .quiet | .silenceDue | .holdDue => none)
      ++ (if (∃ e : Fin 96, b.emitterSat[e] = true ∧ s.mix.emitterClip[e] = false)
            ∨ ∃ k : Fin 16, b.tailSat[k] = true ∧ s.mix.tailClip[k] = false then [.clip] else [])
    ∃ t, exec .blockEnd s = .next t
      ∧ t.table = s.table.map Entry.advance
      ∧ (∀ e : Fin 96, t.sup.emitterGain[e] =
          move (if s.engine.state = .running ∧ s.sup.emitterFlag[e] = false then 256 else 0) s.sup.emitterGain[e])
      ∧ (∀ p : Fin 32, t.sup.pickups[p] = ((moved p).blockEnd (heard p)).1)
      ∧ t.stager = (if s.stager.fade.counting = true ∧ 1 < s.stager.fade.remaining then
          { s.stager with fade := { s.stager.fade with remaining := s.stager.fade.remaining - 1 } } else s.stager)
      ∧ t.cue = (if 1 < s.cue.counter then { s.cue with counter := s.cue.counter - 1 } else s.cue)
      ∧ (s.engine.state ≠ .running → t.meter = s.meter)
      ∧ t.meter = { s.meter with
          pickups := t.meter.pickups, emitters := t.meter.emitters, interval := t.meter.interval }
      ∧ (s.engine.state = .running →
          (∀ p : Fin 32, t.meter.pickups[p] = added b.pickups[p] s.meter.pickups[p].clips s.meter.pickups[p])
          ∧ (∀ e : Fin 96, t.meter.emitters[e] = added b.emitters[e]
              (if b.emitterSat[e] then min 65535 (s.meter.emitters[e].clips + 1) else s.meter.emitters[e].clips)
              s.meter.emitters[e])
          ∧ t.meter.interval = (if s.meterInterval = 0 then 0
              else if s.meter.interval + 1 = s.meterInterval then s.meter.interval else s.meter.interval + 1))
      ∧ (∀ e : Fin 96, t.mix.emitterClip[e] = (s.mix.emitterClip[e] || b.emitterSat[e])
          ∧ t.mix.clipBlocks[e] = if b.emitterSat[e] then min 65535 (s.mix.clipBlocks[e] + 1) else s.mix.clipBlocks[e])
      ∧ (∀ k : Fin 16, t.mix.tailClip[k] = (s.mix.tailClip[k] || b.tailSat[k]))
      ∧ t.notice = kinds.foldl (fun u k => u.raise s.root { kind := k, after := none, longs := [] }) s.notice
      ∧ t.due = s.table.filterMap Entry.dueEnd
          ++ (if s.stager.fade.counting = true ∧ s.stager.fade.remaining ≤ 1 then [.fade] else [])
          ++ (List.finRange 32).filterMap (fun p => ((moved p).blockEnd (heard p)).2.due p)
          ++ (if s.engine.state = .running ∧ s.meterInterval ≠ 0 ∧ s.meter.interval + 1 = s.meterInterval then [.meter] else [])
          ++ (if s.cue.counter = 1 then [.holdoff] else [])
      ∧ t.sup.emitterFlag = s.sup.emitterFlag
      ∧ t.mix = { s.mix with emitterClip := t.mix.emitterClip, tailClip := t.mix.tailClip, clipBlocks := t.mix.clipBlocks,
                             block := none, opening := true }
      ∧ SameOutside [.table, .sup, .stager, .cue, .meter, .mix, .due, .notice] s t

/-- The supervisor on one pickup at a block end (R121 to R128), by its state: DISABLED untouched; SILENT by the
presence test; LIVE and RINGING by the silence watchdog, then the ring monitor, then recovery or hold. `rise` is the
bit of R124. -/
def Obligations.PickupActsByState : Prop :=
  ∀ (p : Pickup) (peak energy : Nat),
    let rise := decide (p.ring.ringFloor ≤ energy ∧ p.previous * p.ring.rise < energy * 256)
    let rises := (p.rises ++ [rise]).drop (p.rises.length - 3)
    let silence := if p.floor ≤ peak then 0 else p.silence + 1
    let heard := { p with previous := energy, silence := silence }
    (p.state = .disabled → p.blockEnd (peak, energy) = (p, .quiet))
      ∧ (p.state = .silent →
          let bits := (p.presence ++ [decide (p.floor ≤ peak)]).drop (p.presence.length - 3)
          p.blockEnd (peak, energy) =
            if 3 ≤ bits.count true then
              ({ p with state := .live, trim := p.ring.trimFloor, silence := 0, presence := [], rises := [], previous := 0 },
                .returned)
            else ({ p with presence := bits }, .quiet))
      ∧ (p.state = .live ∨ p.state = .ringing →
          p.blockEnd (peak, energy) =
            if peak < p.floor ∧ p.limit ≤ silence then (heard, .silenceDue)
            else if 3 ≤ rises.count true then
              ({ heard with
                  trim := max p.ring.trimFloor (p.trim * p.ring.cut / 256), hold := p.ring.hold,
                  ringCount := min 65535 (p.ringCount + 1), rises := [], state := .ringing }, .rang)
            else if p.state = .live then
              ({ heard with rises := rises, trim := min 256 (p.trim + p.ring.recovery) }, .quiet)
            else if p.hold ≤ 1 then ({ heard with rises := rises }, .holdDue)
            else ({ heard with rises := rises, hold := p.hold - 1 }, .quiet))
      ∧ ∀ n : Fin 32, [PickupOutcome.quiet, .returned, .rang, .silenceDue, .holdDue].map (fun x => x.due n)
          = [none, none, none, some (.silence n), some (.ringHold n)]

/-! ### Ramps, dips and the ends of movements -/

/-- The ends of movements (R16, R69, R72, R73): each acts on the entry of its key and on no other, and a removal
leaves one entry fewer. -/
def Obligations.MovementEnds : Prop :=
  ∀ (s : State) (k : Key),
    (.ramp k ∈ s.due → exec (.rampEnd k) s = .next ((s.setDue (s.due.erase (.ramp k))).setTable
        (s.table.map fun e => if e.key = k then { e with current := e.target, motion := .settled } else e)))
      ∧ (.removal k ∈ s.due → exec (.entryRemoval k) s = .next ((s.setDue (s.due.erase (.removal k))).setTable
        (s.table.filter fun e => decide (e.key ≠ k))))
      ∧ (s.table.Pairwise (fun a b => a.key.rank < b.key.rank) → hasKey s.table k = true →
        (s.table.filter fun e => decide (e.key ≠ k)).length + 1 = s.table.length)
      ∧ (.dipLow k ∈ s.due → exec (.dipLowPoint k) s = .next ((s.setDue (s.due.erase (.dipLow k))).setTable
        (s.table.map fun e => if e.key = k then
          (match e.motion with
            | .dipDown _ _ d u => { e with current := 0, delay := d, motion := .dipUp (Int.tdiv e.target u) u }
            | _ => e) else e)))
      ∧ (.dipUp k ∈ s.due → exec (.dipUpEnd k) s = .next ((s.setDue (s.due.erase (.dipUp k))).setTable
        (s.table.map fun e => if e.key = k then { e with current := e.target, motion := .settled } else e)))

/-- The other ends of a block end: FADE (R60), a pickup to SILENT (R122) or from RINGING to LIVE (R127), the meter
interval (R144 to R146) and the holdoff (R156). -/
def Obligations.OtherBlockEndEnds : Prop :=
  ∀ (s : State) (p : Fin 32),
    (.fade ∈ s.due → ∃ t, exec .fadeEnd s = .next t
        ∧ t.stager = { s.stager with fade := { cue := s.stager.fade.cue, remaining := 0, counting := false } }
        ∧ SameOutside [.stager, .notice, .progress, .due] s t ∧ t.due = s.due.erase .fade
        ∧ t.notice = (raise .stager .fade s).notice ∧ t.progress = (progressOccasion (s.setStager t.stager)).progress)
      ∧ (.silence p ∈ s.due → ∃ t, exec (.silenceLimit p) s = .next t
        ∧ t.sup = s.sup.setPickup p
            { s.sup.pickups[p] with
              state := .silent, silence := 0, presence := [], rises := [], previous := 0,
              hold := if s.sup.pickups[p].state = .ringing then 0 else s.sup.pickups[p].hold }
        ∧ t.due = s.due.erase (.silence p) ∧ SameOutside [.sup, .notice, .due] s t ∧ t.notice = (raise .supervisor .pickup s).notice)
      ∧ (.ringHold p ∈ s.due → exec (.ringHoldEnd p) s = .next ((s.setDue (s.due.erase (.ringHold p))).setSup
        (s.sup.setPickup p { s.sup.pickups[p] with hold := 0, state := .live })))
      ∧ (.meter ∈ s.due → ∃ t, exec .meterIntervalExpiry s = .next t ∧ t.meter.interval = 0
        ∧ (s.meter.writer.isSome = true →
            t.meter = { s.meter with interval := 0, skips := (s.meter.skips + 1) % 4294967296 })
        ∧ (∀ r, s.meter.writer = none → s.root = some r →
            t.meter = { s.meter with
              interval := 0, pickups := Vector.replicate 32 .zero, emitters := Vector.replicate 96 .zero,
              hold := some
                { pickups := s.meter.pickups, emitters := s.meter.emitters,
                  records := s.sup.pickups.map fun p => { state := p.state, trim := p.trim, ringCount := p.ringCount },
                  emitterClip := s.mix.emitterClip, tailClip := s.mix.tailClip, clipBlocks := s.mix.clipBlocks,
                  skips := s.meter.skips, source := .interval }
              writer := some { addr := r.meterPage, seq := (s.meter.pageSeq + 1) % 4294967296, turn := 0 } })
        ∧ SameOutside [.meter, .due] s t ∧ t.due = s.due.erase .meter)
      ∧ (.holdoff ∈ s.due → exec .holdoffExpiry s = .next ((s.setDue (s.due.erase .holdoff)).setCue { s.cue with counter := 0 }))

/-- An ordinary ramp over n blocks from c to t (R68, R69): after k of its first n - 1 block ends the gain is c + k ×
trunc((t - c) / n), between c and t, with n - k blocks left, and the n-th block end is the one that lands it. So does
the ramp toward 0 of a RETIRING entry (R15), whose n-th block end removes it (R16). A fade of 0 lands the one and
removes the other at once, and a SETTLED entry stands. -/
def Obligations.RampStaysBetweenAndLandsOnTime : Prop :=
  (∀ (e : Entry) (n k : Nat), 1 ≤ n → k < n →
    let r := Nat.iterate Entry.advance k (ordinaryRamp n e)
    r = { e with current := e.current + k * Int.tdiv (e.target - e.current) n,
                 motion := .ramping (Int.tdiv (e.target - e.current) n) (n - k) }
      ∧ min e.current e.target ≤ r.current ∧ r.current ≤ max e.current e.target
      ∧ r.dueEnd = if k + 1 = n then some (.ramp e.key) else none)
    ∧ (∀ (e : Entry) (n k : Nat), 1 ≤ n → k < n → ∃ handed, retiringRamp n e = some handed ∧
      let r := Nat.iterate Entry.advance k handed
      r = { e with current := e.current + k * Int.tdiv (-e.current) n,
                   motion := .retiring (Int.tdiv (-e.current) n) (n - k) }
        ∧ min e.current 0 ≤ r.current ∧ r.current ≤ max e.current 0
        ∧ r.dueEnd = if k + 1 = n then some (.removal e.key) else none)
    ∧ ∀ e : Entry, ordinaryRamp 0 e = { e with current := e.target, motion := .settled } ∧ retiringRamp 0 e = none
      ∧ (e.motion = .settled → e.advance = e ∧ e.dueEnd = none)

/-- A dip over n blocks (R70, R72, R73): floor(n / 2) block ends down at the old delay, then the low point at gain 0
with the new delay, and the rest of the blocks up, of which the last is the n-th since the handover. -/
def Obligations.DipSwitchesDelayAtZero : Prop :=
  ∀ (e : Entry) (n d k : Nat), 2 ≤ n → k < n / 2 →
    let r := Nat.iterate Entry.advance k (dipTo n d e)
    r = { e with current := e.current + k * Int.tdiv (-e.current) (n / 2 : Nat),
                 motion := .dipDown (Int.tdiv (-e.current) (n / 2 : Nat)) (n / 2 - k) d (n - n / 2) }
      ∧ r.dueEnd = (if k + 1 = n / 2 then some (.dipLow e.key) else none)
      ∧ r.lowPoint = { e with current := 0, delay := d,
                              motion := .dipUp (Int.tdiv e.target (n - n / 2 : Nat)) (n - n / 2) }
      ∧ (∀ j, j < n - n / 2 → Nat.iterate Entry.advance j r.lowPoint =
          { e with current := j * Int.tdiv e.target (n - n / 2 : Nat), delay := d,
                   motion := .dipUp (Int.tdiv e.target (n - n / 2 : Nat)) (n - n / 2 - j) }
        ∧ (Nat.iterate Entry.advance j r.lowPoint).dueEnd = if j + 1 = n - n / 2 then some (.dipUp e.key) else none)
      ∧ dipTo 0 d e = { e with delay := d, current := e.target, motion := .settled }
      ∧ dipTo 1 d e = { e with delay := d, motion := .ramping (e.target - e.current) 1 }

/-! ### Scenes and cues -/

/-- The STAGE card: STANDBY_READY in READY (R46); otherwise its items in list order (R47), each by the checks of
R47's table, with the completion of R48; and how a list is cut into items, which bytes of a path item each field is
(R177), and how items are taken until the first that fails. -/
def Obligations.StageCardStagesItems : Prop :=
  (∀ (l : List StandbyItem) (n : Nat) (p : PathItem), (l.Pairwise fun a b => a.key ≠ b.key) →
    stageItem (l, n) p =
      if p.op ≠ 0 ∧ p.op ≠ 1 then .error .badField
      else
        match Key.ofCodes p.source p.dest with
        | none => .error .range
        | some k =>
          let new : StandbyItem := { key := k, op := if p.op = 0 then .set p.gain (min p.delay 4800) else .retire }
          let m := n + (if p.op = 0 ∧ 4800 < p.delay then 1 else 0)
          if k ∈ l.map StandbyItem.key then .ok (l.map fun i => if i.key = k then new else i, m)
          else if 1536 ≤ l.length then .error .standbyFull
          else .ok (l ++ [new], m))
    ∧ (∀ (size n i : Nat) (b : List Byte), (itemsOf size n b).length = n
      ∧ (i < n → (itemsOf size n b)[i]? = some ((b.drop (size * i)).take size)))
    ∧ (∀ b : List Byte, PathItem.ofBytes b =
        { source := field b 0 1, dest := field b 1 1, op := field b 2 1, gain := field16s b 4, delay := field b 6 2 })
    ∧ (∀ (σ α : Type) (f : σ → α → Except Result σ) (i : Nat) (a : α) (as : List α) (x : σ),
      applyItems f i [] x = (x, none)
        ∧ applyItems f i (a :: as) x = (match f x a with
          | .ok y => applyItems f (i + 1) as y
          | .error r => (x, some (i, r))))
    ∧ (∀ (s : State) (h : Hand) (bytes : List Byte) (items : List StandbyItem) (hd : Header), Settled s →
      s.actingOn .stage = some (h, bytes) → s.stager.standby = .ready items hd →
        exec .stage s = .next (complete h
          { result := .standbyReady, remaining := h.count, detail := 0,
            returns := [(24, leBytes 2 items.length ++ leBytes 1 2)] } s))
    ∧ ∀ (s : State) (h : Hand) (bytes : List Byte), Settled s → s.actingOn .stage = some (h, bytes) →
      (∀ items hd, s.stager.standby ≠ .ready items hd) →
        let r := applyItems stageItem 0 ((itemsOf 8 h.count bytes).map PathItem.ofBytes) (s.stager.standby.items, 0)
        let after : Standby := if s.stager.standby = .empty ∧ r.1.1 = [] then .empty else .building r.1.1
        exec .stage s = .next (complete h
          { result := (r.2.map Prod.snd).getD .ok
            remaining := (r.2.map fun f => h.count - f.1).getD 0
            detail := (r.2.map fun f => f.1 % 256).getD (min 255 r.1.2)
            returns := [(24, leBytes 2 r.1.1.length ++ leBytes 1 after.code)] }
          (s.setStager { s.stager with standby := after }))

/-- The STANDBY card (R49): its checks in order, the header fixed with a fade above 60000 taken as 60000, and the
completion with item count and standby state. -/
def Obligations.StandbyCardFixesHeader : Prop :=
  ∀ (s : State) (h : Hand) (bytes : List Byte), Settled s → s.actingOn .standby = some (h, bytes) →
    let cue := h.arg 24 2
    let mode := h.arg 26 1
    let fade := h.arg 28 4
    let n := s.stager.standby.items.length
    let done := fun (r : Result) (detail code : Nat) (t : State) => complete h
      { result := r, remaining := 0, detail := detail, returns := [(32, leBytes 2 n ++ leBytes 1 code)] } t
    exec .standby s = .next
      (if s.stager.standby.code = 2 then done .standbyReady 0 2 s
        else if cue = 0 then done .range 0 s.stager.standby.code s
        else if mode ≠ 0 ∧ mode ≠ 1 then done .badField 0 s.stager.standby.code s
        else done .ok (if 60000 < fade then 1 else 0) 2
          (s.setStager { s.stager with
            standby := .ready s.stager.standby.items
              { cue := cue, fade := min 60000 fade, mode := if mode = 0 then .replace else .amend } }))

/-- The DROP STANDBY card (R50): the list and header are gone, the state is EMPTY, and the card is DONE with the
number of items the list held; nothing else moves. -/
def Obligations.DropStandbyEmptiesTheList : Prop :=
  ∀ (s : State) (h : Hand) (bytes : List Byte), Settled s → s.actingOn .dropStandby = some (h, bytes) →
    exec .dropStandby s = .next (complete h
      { result := .ok, remaining := 0, detail := 0, returns := [(24, leBytes 2 s.stager.standby.items.length)] }
      (s.setStager { s.stager with standby := .empty }))

/-- A GO from a card or from the cue line (R51 to R54, R58, R59, R61, R62, R65): not ready, refused for capacity, or
executed, with CUE raised and the progress record written, and for a fade of 0 FADE after CUE; and the capacity check
(R53): TABLE_FULL where entries and new keys pass 1536, else DEST_FULL naming the destination of the first SET item, in
list order, whose new key brings its destination past 24; the card's returns are those of R62 at their places. (The
second occasion of a fade of 0: assumption log 21; the returns of a refused GO: 23; the destination of a GO that is no
DEST_FULL: 32; CUE before the record for a refused line GO: 33.) -/
def Obligations.GoExecutesOrIsRefused : Prop :=
  (∀ (s : State) (src : GoSource), Settled s →
    (∀ (h : Hand) (bytes : List Byte), s.actingOn .go = some (h, bytes) →
        let r := takeGo .card s
        exec .go s = .next (complete h
          { result := r.2.result, remaining := 0, detail := if r.2.result = .destFull then r.2.dest else 0,
            returns := [
              (24, flagBytes 12 r.1.budget.clamped.toList ++ leBytes 1 (r.1.budget.clamped.toList.count true)),
              (38, leBytes 2 r.2.executed ++ leBytes 2 r.1.stager.cueCounter ++ leBytes 2 r.2.created
                ++ leBytes 2 r.1.table.length)] } r.1))
      ∧ (0 < s.stager.lineGos → s.engine.state ≠ .loading →
        exec .lineGo s = .next (takeGo .line (s.setStager { s.stager with lineGos := s.stager.lineGos - 1 })).1)
      ∧ ((∀ items hd, s.stager.standby ≠ .ready items hd) →
        let st := { s.stager with goSource := src, goResult := .notReady, goDest := 0 }
        takeGo src s = (progressOccasion (s.setStager
            (if src = .line then { st with stray := (s.stager.stray + 1) % 4294967296 } else st)),
          { result := .notReady, dest := 0, executed := 0, created := 0 }))
      ∧ (∀ items hd r d, s.stager.standby = .ready items hd → capacityCheck s.table items = some (r, d) →
        let t := s.setStager { s.stager with goSource := src, goResult := r, goDest := d }
        takeGo src s = (progressOccasion (if src = .line then raise .stager .cue t else t),
          { result := r, dest := d, executed := 0, created := 0 }))
      ∧ ∀ items hd, s.stager.standby = .ready items hd → capacityCheck s.table items = none →
        let merged := ((s.setTable (mergedTable s.budget s.table items hd)).setBudget
          { s.budget with clamped := fullClamp s.budget (requestedTable s.table items hd) }).setStager
          { s.stager with
            standby := .empty, cueCounter := (s.stager.cueCounter + 1) % 65536, lastCue := hd.cue, goSource := src,
            goResult := .ok, goDest := 0
            fade := { cue := hd.cue, remaining := hd.fade, counting := decide (0 < hd.fade) }
            superseded := if s.stager.fade.counting then (s.stager.superseded + 1) % 4294967296 else s.stager.superseded }
        let cued := progressOccasion (raise .stager .cue merged)
        takeGo src s =
          ((if 0 < hd.fade then cued else progressOccasion (raise .stager .fade cued)),
            { result := .ok, dest := 0, executed := hd.cue, created := (newKeys s.table items).length }))
    ∧ (∀ (table : List Entry) (items : List StandbyItem),
    let new := newKeys table items
    let into := fun d => destCount table d + new.countP fun k => k.destCode == d
    let upTo := fun (i : Nat) (k : Key) =>
      destCount table k.destCode + (new.take (i + 1)).countP fun x => x.destCode == k.destCode
    new = (items.filter fun i => (match i.op with | .set _ _ => true | .retire => false) && !hasKey table i.key).map (·.key)
      ∧ (1536 < table.length + new.length → capacityCheck table items = some (.tableFull, 0))
      ∧ (table.length + new.length ≤ 1536 →
        (capacityCheck table items = none ↔ ∀ k ∈ new, into k.destCode ≤ 24)
          ∧ ∀ r d, capacityCheck table items = some (r, d) → r = .destFull
            ∧ ∃ i k, new[i]? = some k ∧ d = k.destCode ∧ 24 < upTo i k ∧ ∀ j l, j < i → new[j]? = some l → upTo j l ≤ 24)
      ∧ (∀ k, hasKey table k = true ↔ ∃ e ∈ table, e.key = k)
      ∧ ∀ d, destCount table d = (table.filter fun e => e.key.destCode == d).length)

/-- What the merge leaves of each entry (R11, R15, R16, R55, R56): a SET item's gain and the cue number; 0 and
RETIRING for an entry the scene drops; and the rest as they were. An entry in the table comes to its handover with the
current gain and the delay in use it had, stopped retiring where a SET item names it (R17) and with its dip abandoned
where it is retired; a new entry is created at current gain 0, target gain 0 and the item's delay, SETTLED (R55, R67). And
the movement it hands each entry over a fade of
n blocks from 1 on (R57, R68, R70, R71, R74, R75): RETIRING entries ramp toward 0; a delay asked that is not the one
in use dips, or is switched at once over one block; an entry DIPPING or off its target ramps to it; and any other is
SETTLED. Where no SET item asks a delay, an entry on its way down asks its pending delay.
Over a fade of 0 a RETIRING entry leaves the table at once, and any other takes the asked, pending or present delay and its
target at once, SETTLED (R16, R71, R78). -/
def Obligations.MergeSetsAndRetires : Prop :=
  (∀ (b : Budget) (table : List Entry) (items : List StandbyItem) (hd : Header),
    (table.Pairwise fun x y => x.key.rank < y.key.rank) → (items.Pairwise fun x y => x.key ≠ y.key) →
    (∀ k : Key,
        (0 < hd.fade → (hasKey (mergedTable b table items hd) k = true ↔
          hasKey table k = true ∨ ∃ i ∈ items, i.key = k ∧ ∃ g d, i.op = .set g d))
        ∧ (hd.fade = 0 → (hasKey (mergedTable b table items hd) k = true ↔
          (∃ i ∈ items, i.key = k ∧ ∃ g d, i.op = .set g d)
            ∨ (hd.mode = .amend ∧ (∀ i ∈ items, i.key ≠ k) ∧ ∃ o ∈ table, o.key = k ∧ o.motion.code ≠ 4))))
      ∧ (∀ e, e ∈ requestedTable table items hd ↔
        (∃ o ∈ table, e =
          match items.find? fun i => i.key == o.key with
          | some { key := _, op := .set g _ } =>
            { o with requested := g, lastCue := hd.cue,
                     motion := match o.motion with | .retiring _ _ => .settled | m => m }
          | some { key := _, op := .retire } => { o with requested := 0, motion := .retiring 0 1 }
          | none => if hd.mode = .replace then { o with requested := 0, motion := .retiring 0 1 } else o)
        ∨ ∃ k g d, { key := k, op := .set g d } ∈ items ∧ hasKey table k = false ∧
          e = { key := k, requested := g, target := 0, current := 0, delay := d, motion := .settled, lastCue := hd.cue })
      ∧ (requestedTable table items hd).Pairwise (fun x y => x.key.rank < y.key.rank)
      ∧ (∀ e ∈ mergedTable b table items hd,
        match items.find? fun i => i.key == e.key with
        | some { key := _, op := .set g _ } => e.requested = g ∧ e.lastCue = hd.cue ∧ e.motion.code ≠ 4
        | some { key := _, op := .retire } => e.requested = 0 ∧ e.motion.code = 4 ∧ 0 < hd.fade
        | none =>
          if hd.mode = .replace then e.requested = 0 ∧ e.motion.code = 4 ∧ 0 < hd.fade
          else ∃ o ∈ table, o.key = e.key ∧ o.requested = e.requested ∧ o.lastCue = e.lastCue
            ∧ (o.motion.code = 4 ↔ e.motion.code = 4))
      ∧ ∀ e, e ∈ mergedTable b table items hd ↔ ∃ o ∈ fullBudget b (requestedTable table items hd),
        handMovement hd.fade
          (match items.find? fun i => i.key == o.key with
            | some { key := _, op := .set _ d } => some d
            | some { key := _, op := .retire } | none => none) o = some e)
    ∧ (∀ (asked : Option Nat) (e : Entry), handMovement 0 asked e =
      match e.motion with
        | .retiring _ _ => none
        | .dipDown _ _ p _ => some { e with delay := asked.getD p, current := e.target, motion := .settled }
        | .settled | .ramping _ _ | .dipUp _ _ =>
          some { e with delay := asked.getD e.delay, current := e.target, motion := .settled })
    ∧ ∀ (n : Nat) (asked : Option Nat) (e : Entry), 1 ≤ n →
      let ramp : Motion := .ramping (Int.tdiv (e.target - e.current) n) n
      let handed := fun (d : Nat) (still : Motion) =>
        if d = e.delay then { e with motion := still }
        else if n = 1 then { e with delay := d, motion := ramp }
        else { e with motion := .dipDown (Int.tdiv (-e.current) (n / 2 : Nat)) (n / 2) d (n - n / 2) }
      handMovement n asked e = some
        (match e.motion with
          | .retiring _ _ => { e with motion := .retiring (Int.tdiv (-e.current) n) n }
          | .dipDown _ _ p _ => handed (asked.getD p) ramp
          | .dipUp _ _ => handed (asked.getD e.delay) ramp
          | .settled | .ramping _ _ => handed (asked.getD e.delay) (if e.target = e.current then .settled else ramp))

/-- A fade of 0 is a cut (R78): a merge with a fade of 0 leaves exactly the entries that do not retire, each SETTLED at its
target with the delay its SET item asks, else its pending delay, else its own, as delay in use; and a CEILINGS card with a
ceiling fade of 0 keeps every entry, and every one into a listed emitter that is not RETIRING is SETTLED at its target,
with its pending delay, if it has one, in use. -/
def Obligations.CutsLeaveNothingMoving : Prop :=
  (∀ (b : Budget) (table : List Entry) (items : List StandbyItem) (hd : Header), hd.fade = 0 →
      (∀ e ∈ mergedTable b table items hd, e.motion = .settled ∧ e.current = e.target)
        ∧ ((items.Pairwise fun x y => x.key ≠ y.key) → mergedTable b table items hd =
          ((fullBudget b (requestedTable table items hd)).filter fun o => decide (o.motion.code ≠ 4)).map fun o =>
            { o with
              delay := (match items.find? fun i => i.key == o.key with
                | some { key := _, op := .set _ d } => d
                | some { key := _, op := .retire } | none =>
                  match o.motion with
                  | .dipDown _ _ p _ => p
                  | .settled | .ramping _ _ | .dipUp _ _ | .retiring _ _ => o.delay)
              current := o.target
              motion := .settled }))
    ∧ ∀ (b : Budget) (chosen : Fin 96 → Bool) (table : List Entry),
      (∀ e ∈ recomputedTable b chosen 0 table, ∀ em, destEmitter e.key = some em → chosen em = true →
        e.motion.code = 4 ∨ (e.motion = .settled ∧ e.current = e.target))
        ∧ (recomputedTable b chosen 0 table).map (fun e => (e.key, e.requested, e.lastCue, e.delay))
          = table.map fun o => (o.key, o.requested, o.lastCue,
            match o.motion with
              | .dipDown _ _ p _ => if (destEmitter o.key).any chosen then p else o.delay
              | .settled | .ramping _ _ | .dipUp _ _ | .retiring _ _ => o.delay)

/-! ### Cards of the budget, the tails and the pickups -/

/-- The CEILINGS card (R38 to R41): its items by the checks of R38, the listed emitters recomputed and their entries
handed the ceiling fade, every other emitter, every entry into a tail and every tail weight as they stood; and what
the ceiling fade makes of an entry, by its state (R68, R70, R71, R76). -/
def Obligations.CeilingsCardRecomputesListed : Prop :=
  (∀ (p : ProtState) (held : Vector Nat 96) (set : Vector Bool 96) (i : CeilingItem),
    (96 ≤ i.emitter → ceilingItem p (held, set) i = .error .range)
      ∧ ∀ e : Fin 96, i.emitter = e.val →
        ceilingItem p (held, set) i =
          if (p = .locked ∨ p = .isFixed) ∧ i.ceiling ≠ held[e] then .error .isProtected
          else .ok (held.set e i.ceiling, set.set e true))
    ∧ (∀ b : List Byte, CeilingItem.ofBytes b = { emitter := field b 0 1, ceiling := field b 2 2 })
    ∧ (∀ (m : Nat) (e : Entry),
      let ramped := fun x : Entry =>
        if m = 0 then { x with current := x.target, motion := .settled }
        else { x with motion := .ramping (Int.tdiv (x.target - x.current) m) m }
      ceilingMovement m e =
        match e.motion with
        | .retiring _ _ => e
        | .dipDown _ _ p _ =>
          if m < 2 then ramped { e with delay := p }
          else { e with motion := .dipDown (Int.tdiv (-e.current) (m / 2 : Nat)) (m / 2) p (m - m / 2) }
        | .dipUp _ _ =>
          if e.target = e.current then { e with motion := .settled }
          else if m = 0 then { e with current := e.target, motion := .settled }
          else { e with motion := .dipUp (Int.tdiv (e.target - e.current) m) m }
        | .settled | .ramping _ _ => if e.target = e.current then { e with motion := .settled } else ramped e)
    ∧ ∀ (s : State) (h : Hand) (bytes : List Byte), Settled s → s.actingOn .ceilings = some (h, bytes) →
      let r := applyItems (ceilingItem s.prot.state) 0 ((itemsOf 4 h.count bytes).map CeilingItem.ofBytes)
        (s.budget.ceilings, Vector.replicate 96 false)
      let fade := min 60000 (h.arg 24 4)
      ∃ t, exec .ceilings s = .next t ∧ t.budget.ceilings = r.1.1
        ∧ (∀ em : Fin 96, t.budget.clamped[em] =
            if r.1.2[em] then
              (if r.1.1[em] = 0 then s.table.any fun e => e.key.destCode == em.val && decide (e.requested ≠ 0)
                else decide (r.1.1[em] * 16384 < emitterSum s.table em))
            else s.budget.clamped[em])
        ∧ t.table = (s.table.map fun e =>
            match destEmitter e.key with
            | some em =>
              if r.1.2[em] then
                let c := r.1.1[em]
                let sum := emitterSum s.table em
                ceilingMovement fade { e with
                  target := if c = 0 then 0 else if sum ≤ c * 16384 then e.requested
                    else Int.tdiv (e.requested * (c * 16384 : Nat)) sum }
              else e
            | none => e)
        ∧ t.reader.hand = some { h with phase := .completing (completionTransfers h.addr
            { result := (r.2.map Prod.snd).getD .ok
              remaining := (r.2.map fun f => h.count - f.1).getD 0
              detail := (r.2.map fun f => f.1 % 256).getD (if 60000 < h.arg 24 4 then 1 else 0)
              returns := [(28, flagBytes 12 t.budget.clamped.toList ++ leBytes 1 (t.budget.clamped.toList.count true))] }) }
        ∧ t.reader = { s.reader with hand := t.reader.hand } ∧ SameOutside [.table, .budget, .reader] s t

/-- The TAILS and PATCHES cards (R112, R113, R115, R116): each item by the checks of its table, and the designs or
slots alone changed; and the sounding test they make (R110). -/
def Obligations.TailsAndPatchesCards : Prop :=
  (∀ (table : List Entry) (ds : Vector (Option (Fin 40)) 16) (d : Fin 40) (t : Fin 16),
    (sounding table t = true ↔ ∃ e ∈ table, (∃ em, e.key = .tailToEmitter t em)
        ∧ (e.current ≠ 0 ∨ e.motion.code = 1 ∨ e.motion.code = 2 ∨ e.motion.code = 3))
      ∧ (designSounds table ds d = true ↔ ∃ k : Fin 16, ds[k] = some d ∧ sounding table k = true)
      ∧ (soundingSet table)[t.val]? = some (sounding table t))
    ∧ (∀ b : List Byte, TailItem.ofBytes b = { tail := field b 0 1, design := field b 1 1 }
      ∧ PatchItem.ofBytes b =
        { slot := field b 0 1, action := field b 1 1, design := field b 2 1, tap := field b 3 1, delay := field b 4 2,
          gain := field16s b 6 })
    ∧ (∀ d : Fin 40, designCode (some d) = d.val ∧ designCode none = 255)
    ∧ (∀ (table : List Entry) (ds : Vector (Option (Fin 40)) 16) (i : TailItem),
    (16 ≤ i.tail ∨ (40 ≤ i.design ∧ i.design ≠ 255) → tailItem table ds i = .error .range)
      ∧ ∀ (t : Fin 16) (d : Option (Fin 40)), i.tail = t.val → designCode d = i.design →
        tailItem table ds i =
          if ds[t] = d then .ok ds else if sounding table t then .error .tailBusy else .ok (ds.set t d))
    ∧ (∀ (p : ProtState) (table : List Entry) (ds : Vector (Option (Fin 40)) 16) (slots : Vector (Option Patch) 8)
        (i : PatchItem),
      (1 < i.action → patchItem p table ds slots i = .error .badField)
        ∧ (i.action ≤ 1 → 8 ≤ i.slot ∨ (i.action = 1 ∧ (40 ≤ i.design ∨ i.delay = 0)) →
          patchItem p table ds slots i = .error .range)
        ∧ ∀ (k : Fin 8) (new : Option Patch), i.slot = k.val →
          (i.action = 0 ∧ new = none) ∨ (i.action = 1 ∧ 1 ≤ i.delay ∧ ∃ d : Fin 40, i.design = d.val ∧
            new = some { design := d, tap := i.tap, delay := i.delay, gain := i.gain }) →
          patchItem p table ds slots i =
            if slots[k] = new then .ok slots
            else if p = .locked ∨ p = .isFixed then .error .isProtected
            else if contentSounds table ds slots[k] = true ∨ contentSounds table ds new = true then .error .tailBusy
            else .ok (slots.set k new))
    ∧ (∀ (table : List Entry) (ds : Vector (Option (Fin 40)) 16) (o : Option Patch),
      contentSounds table ds o = true ↔ ∃ p, o = some p ∧ designSounds table ds p.design = true)
    ∧ ∀ (s : State) (h : Hand) (bytes : List Byte), Settled s →
      (s.actingOn .tails = some (h, bytes) →
        let r := applyItems (tailItem s.table) 0 ((itemsOf 2 h.count bytes).map TailItem.ofBytes) s.tails.designs
        let t := s.setTails { s.tails with designs := r.1 }
        exec .tails s = .next (complete h
          { result := (r.2.map Prod.snd).getD .ok
            remaining := (r.2.map fun f => h.count - f.1).getD 0
            detail := (r.2.map fun f => f.1 % 256).getD 0
            returns := [(24,
              t.tails.designs.toList.map (fun x => match x with | some d => BitVec.ofNat 8 d.val | none => 255)
                ++ flagBytes 2 ((List.finRange 16).map (sounding s.table)))] } t))
      ∧ (s.actingOn .patches = some (h, bytes) →
        let r := applyItems (patchItem s.prot.state s.table s.tails.designs) 0
          ((itemsOf 8 h.count bytes).map PatchItem.ofBytes) s.tails.slots
        let idle := fun o : Option Patch => match o with
          | some x => decide (tapCount x.design ≤ x.tap)
          | none => false
        let t := s.setTails { s.tails with slots := r.1 }
        exec .patches s = .next (complete h
          { result := (r.2.map Prod.snd).getD .ok
            remaining := (r.2.map fun f => h.count - f.1).getD 0
            detail := (r.2.map fun f => f.1 % 256).getD (r.1.toList.countP idle)
            returns := [(24, flagBytes 1 (r.1.toList.map Option.isSome) ++ flagBytes 1 (r.1.toList.map idle)
              ++ flagBytes 2 ((List.finRange 16).map (sounding s.table)))] } t))

/-- The PICKUPS card (R131 to R134): each item by the checks of R131's table, settings clamped and counted, and the
pickup records alone changed. -/
def Obligations.PickupsCardWritesSettings : Prop :=
  (∀ (prot : ProtState) (ps : Vector Pickup 32) (n : Nat) (i : PickupItem),
    (32 ≤ i.pickup → pickupItem prot (ps, n) i = .error .range)
      ∧ ∀ p : Fin 32, i.pickup = p.val →
        (1 < i.enable → pickupItem prot (ps, n) i = .error .badField)
          ∧ (i.enable ≤ 1 →
            let ring : RingGroup :=
              { rise := max 257 (min 1023 i.ring.rise), ringFloor := min 268435455 i.ring.ringFloor,
                cut := min 255 i.ring.cut, trimFloor := min 256 i.ring.trimFloor,
                hold := max 1 (min 60000 i.ring.hold), recovery := max 1 (min 64 i.ring.recovery) }
            let written := { ps[p] with
              floor := min 8388607 i.floor, limit := max 1 (min 60000 i.limit), ring := ring,
              trim := max ps[p].trim ring.trimFloor }
            let left : Pickup :=
              if i.enable = 1 then
                (if ps[p].state = .disabled then
                  { written with state := .live, trim := 256, silence := 0, hold := 0, ringCount := 0, presence := [],
                                 rises := [], previous := 0 }
                else written)
              else if ps[p].state = .disabled then written else { written with state := .disabled, hold := 0 }
            if (prot = .locked ∨ prot = .isFixed) ∧ ring ≠ ps[p].ring then
              pickupItem prot (ps, n) i = .error .isProtected
            else pickupItem prot (ps, n) i = .ok (ps.set p left, n +
              [decide (8388607 < i.floor), decide (i.limit < 1 ∨ 60000 < i.limit),
               decide (i.ring.rise < 257 ∨ 1023 < i.ring.rise), decide (268435455 < i.ring.ringFloor),
               decide (255 < i.ring.cut), decide (256 < i.ring.trimFloor), decide (i.ring.hold < 1 ∨ 60000 < i.ring.hold),
               decide (i.ring.recovery < 1 ∨ 64 < i.ring.recovery)].count true)))
    ∧ (∀ b : List Byte, PickupItem.ofBytes b =
        { pickup := field b 0 1, enable := field b 1 1, floor := field b 4 4, limit := field b 8 2
          ring := { cut := field b 2 1, recovery := field b 3 1, rise := field b 10 2, ringFloor := field b 12 4,
                    trimFloor := field b 16 2, hold := field b 18 2 } })
    ∧ (∀ (ps : Vector Pickup 32) (p : Fin 32), stateCodes ps.toList / 4 ^ p.val % 4 =
        match ps[p].state with | .disabled => 0 | .live => 1 | .ringing => 2 | .silent => 3)
    ∧ ∀ (s : State) (h : Hand) (bytes : List Byte), Settled s → s.actingOn .pickups = some (h, bytes) →
      let r := applyItems (pickupItem s.prot.state) 0 ((itemsOf 24 h.count bytes).map PickupItem.ofBytes) (s.sup.pickups, 0)
      let t := s.setSup { s.sup with pickups := r.1.1 }
      exec .pickups s = .next (complete h
        { result := (r.2.map Prod.snd).getD .ok
          remaining := (r.2.map fun f => h.count - f.1).getD 0
          detail := (r.2.map fun f => f.1 % 256).getD (min 255 r.1.2)
          returns := [(24, leBytes 8 (stateCodes t.sup.pickups.toList)
            ++ flagBytes 4 (t.sup.pickups.toList.map fun p => decide (p.trim < 256)))] } t)

/-- The MUTES card (R136 to R138): bad arguments fail the card whole; otherwise the items before the first that fails
act on a copy of the map's flags, by the operation SET 0, CLEAR 1, TOGGLE 2 or TEST 3, each writing the prior value the
copy holds into its second byte, and the copy becomes the map's flags; the map's flag set is returned. (The set
returned where the map is none: assumption log 12. The card's writes and its installation are one step: assumption
log 9; that a failed write leaves host memory as it was: 4.) -/
def Obligations.MutesCardActsOnACopy : Prop :=
  (∀ (o : MuteOp) (a : Nat) (failAt : Option Nat) (xs : List Nat) (fs : List Bool),
    let r := muteItems o a failAt 0 xs { flags := fs, writes := [] }
    let stop := (r.2.map Prod.fst).getD xs.length
    let after := fun n : Nat => (xs.take n).foldl (fun f x => f.set x (o.act (f.getD x false))) fs
    r.1.flags = after stop ∧ stop ≤ xs.length
      ∧ r.1.writes = (List.range stop).map (fun i =>
          { addr := a + 2 * i + 1, bytes := [if (after i).getD (xs.getD i 0) false then 1 else 0] })
      ∧ (∀ i, i < stop → xs.getD i 0 < fs.length ∧ failAt ≠ some i)
      ∧ (∀ f, r.2 = some f → stop < xs.length ∧
          ((f.2 = .range ∧ fs.length ≤ xs.getD stop 0) ∨ (f.2 = .link ∧ failAt = some stop ∧ xs.getD stop 0 < fs.length))))
    ∧ ([0, 1, 2, 3].map MuteOp.ofCode = [some .set, some .clear, some .toggle, some .test] ∧ ∀ n, 3 < n → MuteOp.ofCode n = none)
    ∧ (∀ prior : Bool, MuteOp.act .set prior = true ∧ MuteOp.act .clear prior = false ∧ MuteOp.act .toggle prior = !prior
      ∧ MuteOp.act .test prior = prior)
    ∧ (∀ (s : State) (map : Nat), ∃ flags : List Byte, mutesReturn map s = [(28, flags)]
      ∧ (map = 0 → flags = flagBytes 12 (s.sup.pickups.toList.map (·.muteFlag)))
      ∧ (map = 1 → flags = flagBytes 12 s.sup.emitterFlag.toList))
    ∧ ∀ (s : State) (h : Hand) (bytes : List Byte) (failAt : Option Nat), Settled s →
      s.actingOn .mutes = some (h, bytes) →
      (3 < h.arg 24 1 ∨ 1 < h.arg 25 1 →
        exec (.mutes failAt) s = .next (complete h
          { result := .badField, remaining := h.count, detail := 0, returns := mutesReturn (h.arg 25 1) s } s))
      ∧ ∀ o, MuteOp.ofCode (h.arg 24 1) = some o → h.arg 25 1 ≤ 1 →
        let emitters := decide (h.arg 25 1 = 1)
        let r := muteItems o h.listAddr failAt 0 ((itemsOf 2 h.count bytes).map fun b => field b 0 1)
          { flags := if emitters then s.sup.emitterFlag.toList else s.sup.pickups.toList.map (·.muteFlag), writes := [] }
        ∃ t, exec (.mutes failAt) s = .next t
          ∧ t.hostMem = (r.1.writes.foldl (fun m w => m.putAll w.addr w.bytes) s.hostMem)
          ∧ (∀ e : Fin 96, t.sup.emitterFlag[e] = if emitters then r.1.flags.getD e.val false else s.sup.emitterFlag[e])
          ∧ (∀ p : Fin 32, t.sup.pickups[p] =
              { s.sup.pickups[p] with
                muteFlag := if emitters then s.sup.pickups[p].muteFlag else r.1.flags.getD p.val false })
          ∧ t.sup.emitterGain = s.sup.emitterGain
          ∧ t.reader.hand = some { h with phase := .completing (completionTransfers h.addr
              { result := (r.2.map Prod.snd).getD .ok
                remaining := (r.2.map fun f => h.count - f.1).getD 0
                detail := (r.2.map fun f => if f.2 = .link then 0 else f.1 % 256).getD 0
                returns := mutesReturn (h.arg 25 1) t }) }
          ∧ t.reader = { s.reader with hand := t.reader.hand } ∧ SameOutside [.hostMem, .sup, .reader] s t

/-! ### Meters and the cue line -/

/-- The SNAPSHOT card (R145, R146, R149): BAD_FIELD, BUSY while a page is written, or the snapshot taken and the card
a long card (R168); the clear option clears the clip flags and counts (R101). Where an expiry of the meter interval
is due, card and expiry come in either order, with one page and the same accumulators (R150). (BAD_FIELD before BUSY:
assumption log 35; a second SNAPSHOT card that finds the first one's completion unwritten waits: 22; the order of the
card and the expiry is that of the commands: 38.) -/
def Obligations.SnapshotCardTakesOrRefuses : Prop :=
  (∀ (s : State) (h : Hand) (bytes : List Byte), Settled s → s.actingOn .snapshot = some (h, bytes) →
    let refused := fun r : Result => complete h
      { result := r, remaining := 0, detail := 0,
        returns := [(28, leBytes 4 s.meter.pageSeq ++ leBytes 4 s.meter.skips)] } s
    (1 < h.arg 24 1 → exec .snapshot s = .next (refused .badField))
      ∧ (h.arg 24 1 ≤ 1 → s.meter.writer.isSome = true → exec .snapshot s = .next (refused .busy))
      ∧ ∀ r, h.arg 24 1 ≤ 1 → s.meter.writer = none → s.reader.snapCard = none → s.root = some r →
        ∃ t, exec .snapshot s = .next t
          ∧ t.meter = { s.meter with
              pickups := Vector.replicate 32 .zero, emitters := Vector.replicate 96 .zero
              hold := some
                { pickups := s.meter.pickups, emitters := s.meter.emitters,
                  records := s.sup.pickups.map fun p => { state := p.state, trim := p.trim, ringCount := p.ringCount },
                  emitterClip := s.mix.emitterClip, tailClip := s.mix.tailClip, clipBlocks := s.mix.clipBlocks,
                  skips := s.meter.skips, source := .card }
              writer := some { addr := r.meterPage, seq := (s.meter.pageSeq + 1) % 4294967296, turn := 0 } }
          ∧ t.mix = (if h.arg 24 1 = 1 then
              { s.mix with emitterClip := Vector.replicate 96 false, tailClip := Vector.replicate 16 false,
                           clipBlocks := Vector.replicate 96 0 } else s.mix)
          ∧ (let moved := { s.reader with
              snapCard := some { addr := h.addr, notify := h.notify, outcome := none }, hand := none,
              nextTag := (s.reader.nextTag + 1) % 65536, scanPos := (h.slot + 1) % r.slotCount, streak := 0 }
             t.reader = (if s.engine.state = .stopping then { moved with state := .off, again := false, finished := false }
               else moved)
              ∧ t.progress = (if s.engine.state = .stopping ∧ s.reader.finished = true
                  then (progressOccasion ((s.setMeter t.meter).setReader moved)).progress else s.progress))
          ∧ SameOutside [.meter, .mix, .reader, .progress] s t)
    ∧ ∀ (s : State) (h : Hand) (bytes : List Byte) (r : Root), Settled s → s.actingOn .snapshot = some (h, bytes) →
      h.arg 24 1 ≤ 1 → s.meter.writer = none → s.reader.snapCard = none → s.root = some r →
      let both := s.setDue [.meter]
      ∃ t u v w, exec .snapshot both = .next t ∧ exec .meterIntervalExpiry t = .next u
        ∧ exec .meterIntervalExpiry both = .next v ∧ exec .snapshot v = .next w
        ∧ exec .snapshot s = .next (t.setDue []) ∧ t.due = [.meter] ∧ u.due = [] ∧ w.due = []
        ∧ u.meter = { t.meter with interval := 0, skips := (s.meter.skips + 1) % 4294967296 }
        ∧ w.meter = v.meter ∧ w.meter.writer = u.meter.writer
        ∧ w.meter.pickups = u.meter.pickups ∧ w.meter.emitters = u.meter.emitters ∧ w.meter.interval = u.meter.interval
        ∧ w.mix = s.mix
        ∧ w = complete h
            { result := .busy, remaining := 0, detail := 0,
              returns := [(28, leBytes 4 s.meter.pageSeq ++ leBytes 4 s.meter.skips)] } v

/-- A transfer of the meter page ends (R147, R148): it lands and the next begins; after the READY header the page
sequence count moves, METERS is raised and a card that asked is completed OK; a failed one ends the page with
FAULT.MEMORY and the card LINK. And the bytes of the transfers (R178): the header with its fields at their places
first and last, and between them the records in runs of ten. (The rest of the WRITING header is free: assumption log
13; that the hold set stays after a completed page: 28; that a failed transfer leaves host memory as it was: 4.) -/
def Obligations.MeterPageTransfersEnd : Prop :=
  (∀ (s : State) (w : PageWrite) (hold : Hold), Settled s → s.meter.writer = some w → s.meter.hold = some hold →
    let x := pageTransfer hold w
    let card := fun (r : Result) (seq : Nat) => if hold.source = .card then
      s.reader.snapCard.map fun l =>
        { l with outcome := some (Completion.mk r 0 0 [(28, leBytes 4 seq ++ leBytes 4 hold.skips)]) }
      else s.reader.snapCard
    (w.turn < 14 → exec (.meterPageWriteEnd true) s = .next
        ((s.setHostMem (s.hostMem.putAll x.addr x.bytes)).setMeter
          { s.meter with writer := some { w with turn := w.turn + 1 } }))
      ∧ (14 ≤ w.turn → ∃ t, exec (.meterPageWriteEnd true) s = .next t
        ∧ t.hostMem = s.hostMem.putAll x.addr x.bytes ∧ t.meter = { s.meter with writer := none, pageSeq := w.seq }
        ∧ t.notice = (raise .meter .meters s).notice ∧ t.reader = { s.reader with snapCard := card .ok w.seq }
        ∧ SameOutside [.hostMem, .meter, .notice, .reader] s t)
      ∧ ∃ t, exec (.meterPageWriteEnd false) s = .next t ∧ SameOutside [.meter, .regs, .notice, .reader] s t
        ∧ t.meter = { s.meter with writer := none, hold := none }
        ∧ t.regs = { s.regs with fault := s.regs.fault ||| 1#6 }
        ∧ t.notice = (setFault .meter .memory s).notice ∧ t.reader = { s.reader with snapCard := card .link s.meter.pageSeq })
    ∧ ∀ (hold : Hold) (w : PageWrite),
      (w.turn = 0 → (pageTransfer hold w).addr = w.addr ∧ (pageTransfer hold w).bytes.length = 64
        ∧ field (pageTransfer hold w).bytes 0 1 = 0 ∧ field (pageTransfer hold w).bytes 4 4 = w.seq % 2 ^ 32)
      ∧ (14 ≤ w.turn → (pageTransfer hold w).addr = w.addr ∧ (pageTransfer hold w).bytes.length = 64
        ∧ field (pageTransfer hold w).bytes 0 1 = 1
        ∧ field (pageTransfer hold w).bytes 1 1 = (match hold.source with | .interval => 0 | .card => 1)
        ∧ field (pageTransfer hold w).bytes 2 2 = 0 ∧ field (pageTransfer hold w).bytes 4 4 = w.seq % 2 ^ 32
        ∧ field (pageTransfer hold w).bytes 8 4 = hold.skips % 2 ^ 32
        ∧ field (pageTransfer hold w).bytes 12 12 = flagsNat hold.emitterClip.toList
        ∧ field (pageTransfer hold w).bytes 24 2 = flagsNat hold.tailClip.toList
        ∧ field (pageTransfer hold w).bytes 26 38 = 0)
      ∧ (1 ≤ w.turn → w.turn ≤ 13 → (pageTransfer hold w).addr = w.addr + 64 + 240 * (w.turn - 1)
        ∧ (pageTransfer hold w).bytes = (((pageRecords hold).drop (10 * (w.turn - 1))).take 10).flatten)
      ∧ (pageRecords hold).length = 128
      ∧ (∀ p : Fin 32, (pageRecords hold)[p.val]? = some
          (leBytes 4 hold.pickups[p].peak ++ leBytes 8 hold.pickups[p].energy ++ leBytes 2 hold.pickups[p].blocks
            ++ leBytes 1 hold.records[p].state.code ++ [0] ++ leBytes 2 hold.records[p].trim
            ++ leBytes 2 hold.records[p].ringCount ++ [0, 0, 0, 0]))
      ∧ ∀ e : Fin 96, (pageRecords hold)[32 + e.val]? = some
          (leBytes 4 hold.emitters[e].peak ++ leBytes 8 hold.emitters[e].energy ++ leBytes 2 hold.emitters[e].blocks
            ++ [if hold.emitterClip[e] then 1 else 0] ++ [0] ++ leBytes 2 hold.emitters[e].clips
            ++ leBytes 2 hold.clipBlocks[e] ++ [0, 0, 0, 0])

/-- A sample of the cue line (R153 to R155): while disabled nothing; otherwise the history takes the level and the
filter acts, and a matching edge bounces while the holdoff counter is above 0 and otherwise hands over a line GO
(R157). The CUE LINE card (R158, R159): BAD_FIELD with nothing changed, or the configuration written, the history
emptied, and the filtered level kept only where an enabled line stays enabled. (The returns are the line's values at the
card's action: assumption log 39.) -/
def Obligations.CueLineSamplesAndCard : Prop :=
  (∀ (s : State) (x : Level), Settled s →
    (s.cue.enable = false → exec (.cueLineSample x) s = .next s)
      ∧ (s.cue.enable = true →
        let h := (s.cue.history ++ [x]).drop (s.cue.history.length - 3)
        let after := match s.cue.filtered with
          | none => x
          | some l => if s.cue.filter = 0 then x else if l = .low then (if 3 ≤ h.count .high then .high else .low)
              else (if 3 ≤ h.count .low then .low else .high)
        let t := s.setCue { s.cue with history := h, filtered := some after }
        let pulse := (s.cue.edge = .rising ∧ s.cue.filtered = some .low ∧ after = .high)
          ∨ (s.cue.edge = .falling ∧ s.cue.filtered = some .high ∧ after = .low)
        (¬ pulse → exec (.cueLineSample x) s = .next t)
          ∧ (pulse → 0 < s.cue.counter → exec (.cueLineSample x) s = .next (progressOccasion
              (t.setCue { t.cue with bounced := (s.cue.bounced + 1) % 4294967296 })))
          ∧ (pulse → s.cue.counter = 0 → exec (.cueLineSample x) s = .next
              ((t.setCue { t.cue with counter := s.cue.holdoff }).setStager { s.stager with lineGos := s.stager.lineGos + 1 }))))
    ∧ (∀ s : State, cueLineReturn s =
        [(32, leBytes 1 (if s.cue.enable then 1 else 0) ++ leBytes 1 (match s.cue.edge with | .rising => 0 | .falling => 1)
            ++ leBytes 1 s.cue.filter
            ++ leBytes 1 (match s.cue.filtered with | some .low => 0 | some .high => 1 | none => 2) ++ leBytes 2 s.cue.holdoff),
         (40, leBytes 4 s.cue.bounced)])
    ∧ (∀ (s : State) (h : Hand) (bytes : List Byte), Settled s → s.actingOn .cueLine = some (h, bytes) →
    (1 < h.arg 24 1 ∨ 1 < h.arg 25 1 → exec .cueLine s = .next (complete h
        { result := .badField, remaining := 0, detail := 0, returns := cueLineReturn s } s))
      ∧ (h.arg 24 1 ≤ 1 → h.arg 25 1 ≤ 1 →
        let on := decide (h.arg 24 1 = 1)
        let holdoff := min 10000 (h.arg 28 2)
        let t := s.setCue { s.cue with
          enable := on, edge := if h.arg 25 1 = 0 then .rising else .falling, filter := h.arg 26 1, holdoff := holdoff,
          counter := min s.cue.counter holdoff, history := [],
          filtered := if s.cue.enable = true ∧ on = true then s.cue.filtered else none }
        exec .cueLine s = .next (complete h
          { result := .ok, remaining := 0, detail := if 10000 < h.arg 28 2 then 1 else 0,
            returns := [(32, leBytes 1 (if on then 1 else 0) ++ leBytes 1 (h.arg 25 1) ++ leBytes 1 (h.arg 26 1)
                ++ leBytes 1 (levelCode t.cue.filtered) ++ leBytes 2 holdoff),
              (40, leBytes 4 s.cue.bounced)] } t)))

/-! ### The card reader -/

/-- A slot read (R164, R166, R170) and the end of a sweep (R169; a long card is none that it finished: assumption log 45): a slot that is not ISSUED or whose card is ahead is
passed, a due card begins its write of TAKEN, one behind its STALE_TAG completion, and a failed read halts the
reader. The card in hand has the slot's fields at their places: kind, count with 0 meaning 256, notify flag, item list
address, arguments and code (R175, R176), and numbers and flag sets lie in bytes as R6 and R173 have them. (The scan
position and the slots read in a row: assumption log 15, 28; a failed read at a stop: 19; the moment of a STALE_TAG card's return values: 41, 43.) -/
def Obligations.SweepReadsSlotsInTagOrder : Prop :=
  (∀ (n v i : Nat) (b bs : List Byte) (fs : List Bool),
    (leBytes n v).length = n ∧ (i < n → (leBytes n v)[i]? = some (BitVec.ofNat 8 (v / 256 ^ i)))
      ∧ field b i 0 = 0 ∧ field b i (n + 1) = field b i n + 256 ^ n * (b.getD (i + n) 0).toNat
      ∧ field16s b i = (if field b i 2 < 32768 then (field b i 2 : Int) else (field b i 2 : Int) - 65536)
      ∧ flagBytes n fs = leBytes n (flagsNat fs) ∧ (flagsNat fs).testBit i = fs.getD i false)
    ∧ (∀ (slot addr : Nat) (v : Vector Byte 64) (stale : Bool) (phase : Phase),
      let h := Hand.ofBytes slot addr v stale phase
      let kinds : List CardKind := [.stage, .standby, .dropStandby, .go, .ceilings, .tails, .patches, .pickups, .mutes,
        .snapshot, .cueLine, .protect, .store, .report]
      h.slot = slot ∧ h.addr = addr ∧ h.stale = stale ∧ h.phase = phase
        ∧ h.kind = (if v[1] = 0 then none else kinds[v[1].toNat - 1]?)
        ∧ h.count = (if v[4] = 0 then 256 else v[4].toNat) ∧ h.notify = v[5].getLsbD 0 ∧ h.listAddr = field v.toList 16 8
        ∧ (∀ off n, 24 ≤ off → h.arg off n = field v.toList off n)
        ∧ ∀ i : Fin 32, h.code[i] = v[32 + i.val])
    ∧
  (∀ (s : State) (r : Root), Settled s → s.reader.state = .sweeping → s.reader.hand = none → s.root = some r →
    s.reader.streak < r.slotCount →
      let slot := (s.reader.scanPos + s.reader.streak) % r.slotCount
      let addr := r.cardTable + 64 * slot
      (∀ v : Vector Byte 64,
        let ahead := (field v.toList 2 2 + 65536 - s.reader.nextTag) % 65536
        let passed := s.setReader { s.reader with streak := s.reader.streak + 1 }
        (v[0] ≠ 1 → exec (.slotRead (some v)) s = .next passed)
          ∧ (v[0] = 1 → 1 ≤ ahead → ahead < 32768 → exec (.slotRead (some v)) s = .next passed)
          ∧ (v[0] = 1 → ahead = 0 → exec (.slotRead (some v)) s = .next
              (s.setReader { s.reader with hand := some (Hand.ofBytes slot addr v false .taking) }))
          ∧ (v[0] = 1 → 32768 ≤ ahead →
              let h := Hand.ofBytes slot addr v true .taking
              exec (.slotRead (some v)) s = .next (complete h
                { result := .staleTag, remaining := h.count, detail := 0, returns := returnsAsStands h s } s)))
        ∧ exec (.slotRead none) s = .next
          (let u := setFault .reader .memory s
           if s.engine.state = .stopping then
             (if s.reader.finished then progressOccasion u else u).setReader
               { s.reader with state := .off, again := false, finished := false }
           else u.setReader { s.reader with state := .halted, finished := false }))
    ∧ ∀ (s : State) (r : Root), Settled s → s.reader.state = .sweeping → s.reader.hand = none → s.root = some r →
      r.slotCount ≤ s.reader.streak →
        let t := if s.reader.finished then progressOccasion s else s
        exec .sweepEnd s = .next (t.setReader
          (if s.reader.again then
            { t.reader with state := .sweeping, again := false, streak := 0, finished := false }
          else { t.reader with state := .idle, finished := false }))

/-- The reader's own writes and list reads (R164, R167, R170, R171): TAKEN lands and the card goes to its list, its
unit, BAD_KIND or BAD_FIELD; list transfers join until the list is whole or fail LINK; the last completion write
finishes the card; a failed write abandons it; at a stop the reader then goes OFF, with the progress record written
where its sweep finished a card. A completion writes remaining, result and detail, then the return fields, then DONE or
FAILED in a transfer of its own (R167, R175), and a card completed without its unit returns the values as they stand and
0 for what it would have done (R167, R176). (The split of a completion and of a list into transfers: assumption log 16, 31; a
failed write at a stop: 19; the scan position: 15; the moment of the return values: 41, of the clamp flags: 43; that
a failed write leaves host memory as it was: 4.) -/
def Obligations.CardsGoThroughTheirSteps : Prop :=
  (∀ (addr : Nat) (c : Completion), completionTransfers addr c =
      { addr := addr + 6, bytes := leBytes 2 c.remaining ++ leBytes 1 c.result.code ++ leBytes 1 c.detail }
        :: c.returns.map (fun r => { addr := addr + r.1, bytes := r.2 })
        ++ [{ addr := addr, bytes := [if c.result = .ok then 3 else 4] }])
    ∧ [Result.ok, .badKind, .badField, .range, .staleTag, .busy, .notReady, .standbyReady, .standbyFull, .tableFull,
        .destFull, .isProtected, .wrongCode, .lockedOut, .notLocked, .fixed, .tailBusy, .link].map Result.code = List.range 18
    ∧ (∀ (h : Hand) (c : Completion) (s : State), complete h c s =
        s.setReader { s.reader with hand := some { h with phase := .completing (completionTransfers h.addr c) } })
    ∧ [CardKind.stage, .standby, .dropStandby, .go, .ceilings, .tails, .patches, .pickups, .mutes, .snapshot, .cueLine,
        .protect, .store, .report].map CardKind.itemSize
      = [some 8, none, none, none, some 4, some 2, some 8, some 24, some 2, none, none, none, none, none]
    ∧ (∀ (h : Hand) (s : State),
      let sets := flagBytes 12 s.budget.clamped.toList ++ leBytes 1 (s.budget.clamped.toList.count true)
      let sound := flagBytes 2 ((List.finRange 16).map (sounding s.table))
      let standby := leBytes 2 s.stager.standby.items.length ++ leBytes 1 s.stager.standby.code
      returnsAsStands h s = match h.kind with
        | none => []
        | some .stage => [(24, standby)]
        | some .standby => [(32, standby)]
        | some .dropStandby => [(24, leBytes 2 0)]
        | some .go => [(24, sets), (38, leBytes 2 0 ++ leBytes 2 s.stager.cueCounter ++ leBytes 2 0 ++ leBytes 2 s.table.length)]
        | some .ceilings => [(28, sets)]
        | some .tails => [(24, s.tails.designs.toList.flatMap (fun d => leBytes 1 (designCode d)) ++ sound)]
        | some .patches => [(24, flagBytes 1 (s.tails.slots.toList.map Option.isSome)
            ++ flagBytes 1 (s.tails.slots.toList.map ineffective) ++ sound)]
        | some .pickups => [(24, leBytes 8 (stateCodes s.sup.pickups.toList)
            ++ flagBytes 4 (s.sup.pickups.toList.map fun p => decide (p.trim < 256)))]
        | some .mutes => mutesReturn (h.arg 25 1) s
        | some .snapshot => [(28, leBytes 4 s.meter.pageSeq ++ leBytes 4 s.meter.skips)]
        | some .cueLine => cueLineReturn s
        | some .protect => [(25, leBytes 1 s.prot.state.code)]
        | some .store => [(24, leBytes 4 s.store.seq)]
        | some .report => [(32, leBytes 2 0 ++ leBytes 2 s.table.length ++ leBytes 2 s.stager.cueCounter)])
    ∧
  ∀ (s : State) (h : Hand), Settled s → s.reader.hand = some h →
    let refused := fun r : Result => Completion.mk r h.count 0 (returnsAsStands h s)
    let hold := fun (t : State) (p : Phase) => t.setReader { s.reader with hand := some { h with phase := p } }
    let ending := fun c : Completion => Phase.completing (completionTransfers h.addr c)
    let passed : Reader :=
      if h.stale then { s.reader with streak := s.reader.streak + 1, hand := none }
      else { s.reader with nextTag := (s.reader.nextTag + 1) % 65536, scanPos := (h.slot + 1) % s.slotCount, streak := 0,
                           hand := none }
    let off := fun r : Reader => { r with state := .off, again := false, finished := false }
    (h.phase = .taking → exec (.cardWriteEnd true) s = .next (hold (s.setHostMem (s.hostMem.putAll h.addr [2]))
        (match h.kind.map CardKind.itemSize with
          | none => ending (refused .badKind)
          | some none => .acting []
          | some (some n) => if h.listAddr % 8 = 0 then .listing [] (h.count * n) else ending (refused .badField))))
      ∧ (∀ got left, h.phase = .listing got left →
        exec (.itemListRead none) s = .next (hold s (ending (refused .link)))
          ∧ ∀ v : Vector Byte 256, exec (.itemListRead (some v)) s = .next (hold s
            (if left ≤ 256 then .acting (got ++ v.toList.take left)
              else .listing (got ++ v.toList.take left) (left - 256))))
      ∧ (∀ x y ys, h.phase = .completing (x :: y :: ys) → exec (.cardWriteEnd true) s = .next
          (hold (s.setHostMem (s.hostMem.putAll x.addr x.bytes)) (.completing (y :: ys))))
      ∧ (∀ x, h.phase = .completing [x] → exec (.cardWriteEnd true) s = .next
          (let r := { passed with finished := true, cardsFinished := (s.reader.cardsFinished + 1) % 4294967296 }
           let u := (s.setHostMem (s.hostMem.putAll x.addr x.bytes)).setReader r
           let v := if h.notify then raise .reader .card u else u
           if s.engine.state = .stopping then (progressOccasion v).setReader (off r) else v))
      ∧ (h.phase = .taking ∨ (∃ x xs, h.phase = .completing (x :: xs)) → exec (.cardWriteEnd false) s = .next
          (let r := if h.stale then { s.reader with hand := none } else passed
           let u := setFault .reader .memory (s.setReader (if h.stale then s.reader else passed))
           if s.engine.state = .stopping then (if s.reader.finished then progressOccasion u else u).setReader (off r)
           else u.setReader { r with state := .halted, finished := false }))

/-- A long card's completion (R168): its writes land, it counts as finished, CARD is raised if it asks, the progress
record is written and the card leaves the list; or a write fails, FAULT.MEMORY is set and the card leaves the list
uncounted. Either way no notice waits for this completion any longer (R181). (The completion's transfers: assumption
log 16; the notices that wait: 18; that a sweep does not count it as finished: 45; that a failed
write leaves host memory as it was: 4.) -/
def Obligations.LongCardsCompleteLater : Prop :=
  ∀ (s : State) (k : LongKind) (l : LongCard) (c : Completion), Settled s →
    (match k with | .store => s.reader.storeCard | .snapshot => s.reader.snapCard) = some l → l.outcome = some c →
    let xs := completionTransfers l.addr c
    let gone := match k with
      | .store => { s.reader with storeCard := none }
      | .snapshot => { s.reader with snapCard := none }
    let free := fun x : Raising => { x with longs := x.longs.filter (· ≠ k) }
    let freeWrite := fun w : NoticeWrite => { w with raising := free w.raising }
    let freed := { s.notice with
      pending := s.notice.pending.map (Option.map free), queue := s.notice.queue.map freeWrite, handed := s.notice.handed.map freeWrite }
    let left := (s.setReader gone).setNotice freed
    (∃ t, exec (.longCardCompletion k none) s = .next t
        ∧ t.hostMem = xs.foldl (fun m x => m.putAll x.addr x.bytes) s.hostMem
        ∧ t.reader = { gone with cardsFinished := (s.reader.cardsFinished + 1) % 4294967296 }
        ∧ t.notice = (if l.notify then (raise .linkPort .card left).notice else freed)
        ∧ t.progress = (progressOccasion (s.setReader t.reader)).progress
        ∧ SameOutside [.hostMem, .reader, .notice, .progress] s t)
      ∧ ∀ i, i < xs.length → ∃ t, exec (.longCardCompletion k (some i)) s = .next t
        ∧ t.hostMem = (xs.take i).foldl (fun m x => m.putAll x.addr x.bytes) s.hostMem
        ∧ t.reader = gone ∧ t.regs = { s.regs with fault := s.regs.fault ||| 1#6 }
        ∧ t.notice = (setFault .linkPort .memory left).notice
        ∧ SameOutside [.hostMem, .reader, .regs, .notice] s t

/-! ### Protection and the store -/

/-- The five actions of the PROTECT card by state (R185, R186), and the end of the blow of the fuse (R187): blown and
FIXED with the card OK, or intact with the card LINK and nothing changed. (Bad flags under any of the five commands:
assumption log 24.) -/
def Obligations.ProtectActionsByState : Prop :=
  (∀ (s : State) (h : Hand) (bytes : List Byte), Settled s → s.actingOn .protect = some (h, bytes) →
    let done := fun (r : Result) (p : Protect) => complete h
      { result := r, remaining := 0, detail := 0, returns := [(25, leBytes 1 p.state.code)] } (s.setProt p)
    let compared := fun matched : Protect =>
      if s.prot.wrong = 5 then done .lockedOut s.prot
      else if s.prot.code = some h.code then done .ok matched
      else done .wrongCode { s.prot with wrong := s.prot.wrong + 1 }
    (h.arg 24 1 = 1 → exec .setCode s = .next
        (match s.prot.state with
          | .none | .opened => done .ok { s.prot with state := .locked, code := some h.code }
          | .locked => done .isProtected s.prot
          | .isFixed => done .fixed s.prot))
      ∧ (s.prot.wrong ≤ 5 → h.arg 24 1 = 2 → exec .unlock s = .next
        (match s.prot.state with
          | .none => done .notLocked s.prot
          | .locked => compared { s.prot with state := .opened, wrong := 0 }
          | .opened => done .ok s.prot
          | .isFixed => done .fixed s.prot))
      ∧ (h.arg 24 1 = 4 → exec .relock s = .next
        (match s.prot.state with
          | .none => done .notLocked s.prot
          | .locked => done .ok s.prot
          | .opened => done .ok { s.prot with state := .locked }
          | .isFixed => done .fixed s.prot))
      ∧ (s.prot.wrong ≤ 5 → h.arg 24 1 = 8 → exec .clearCode s = .next
        (match s.prot.state with
          | .none => done .notLocked s.prot
          | .locked | .opened => compared { s.prot with state := .none, code := none }
          | .isFixed => done .fixed s.prot))
      ∧ (h.arg 24 1 = 16 → exec .fix s = .next
        (match s.prot.state with
          | .none | .opened => s.setReader { s.reader with hand := some { h with phase := .blowing } }
          | .locked => done .isProtected s.prot
          | .isFixed => done .ok s.prot))
      ∧ (h.arg 24 1 ∉ [1, 2, 4, 8, 16] →
        exec .setCode s = .next (done .badField s.prot) ∧ exec .unlock s = .next (done .badField s.prot)
          ∧ exec .relock s = .next (done .badField s.prot) ∧ exec .clearCode s = .next (done .badField s.prot)
          ∧ exec .fix s = .next (done .badField s.prot)))
    ∧ (∀ (s : State) (h : Hand), Settled s → s.reader.hand = some h → h.phase = .blowing →
    exec (.fuseBlowEnd true) s = .next (complete h
        { result := .ok, remaining := 0, detail := 0, returns := [(25, leBytes 1 3)] }
        (s.setProt { s.prot with fuseBlown := true, state := .isFixed }))
      ∧ exec (.fuseBlowEnd false) s = .next (complete h
        { result := .link, remaining := 0, detail := 0, returns := [(25, leBytes 1 s.prot.state.code)] } s))

/-- The STORE card and the write it begins (R168, R190, R191): BUSY while WRITING; otherwise the capture, with the
flash no longer a good image; then the erase, the program, and the verify, which ends with the new sequence count or
begins the erase that ends with LINK. (The erased flash: assumption log 10; a second STORE card that finds the first
one's completion unwritten waits: 22; that STORE_ERASE_END ends the erase after a verify that did not match: 37.) -/
def Obligations.StoreCapturesAndWrites : Prop :=
  (∀ (s : State) (h : Hand) (bytes : List Byte), Settled s → s.actingOn .store = some (h, bytes) →
    (∀ p i, s.store.state = .writing p i → exec .store s = .next (complete h
        { result := .busy, remaining := 0, detail := 0, returns := [(24, leBytes 4 s.store.seq)] } s))
      ∧ (s.store.state = .idle → s.reader.storeCard = none → ∃ t i, exec .store s = .next t
        ∧ t.store = { state := .writing .erasing i, seq := s.store.seq, flash := List.replicate 681 255 }
        ∧ imageOfBytes t.store.flash = none
        ∧ i.seq = (s.store.seq + 1) % 4294967296 ∧ i.ceilings = s.budget.ceilings ∧ i.slots = s.tails.slots
        ∧ (∀ p : Fin 32, i.rings[p] = s.sup.pickups[p].ring)
        ∧ i.state = (if s.prot.state = .opened then .locked else s.prot.state)
        ∧ (s.prot.state = .none → i.code = Vector.replicate 32 0)
        ∧ (∀ k, s.prot.state ≠ .none → s.prot.code = some k → i.code = k)
        ∧ (let moved := { s.reader with
            storeCard := some { addr := h.addr, notify := h.notify, outcome := none }, hand := none,
            nextTag := (s.reader.nextTag + 1) % 65536, scanPos := (h.slot + 1) % s.slotCount, streak := 0 }
           t.reader = (if s.engine.state = .stopping then { moved with state := .off, again := false, finished := false }
             else moved)
            ∧ t.progress = (if s.engine.state = .stopping ∧ s.reader.finished = true
                then (progressOccasion ((s.setStore t.store).setReader moved)).progress else s.progress))
        ∧ SameOutside [.store, .reader, .progress] s t))
    ∧ ∀ (s : State) (i : Image), Settled s →
      let ended := fun c : Completion => s.reader.storeCard.map fun l => { l with outcome := some c }
      (s.store.state = .writing .erasing i → exec .storeEraseEnd s = .next
          (s.setStore { s.store with state := .writing .programming i }))
        ∧ (s.store.state = .writing .programming i → ∀ f, exec (.storeProgramEnd f) s = .next
          (s.setStore { s.store with
            state := .writing .verifying i, flash := if f then imageBytes i else s.store.flash }))
        ∧ (s.store.state = .writing .verifying i → ∀ a,
          exec (.storeVerifyEnd a) s = .next
            (if a = true ∧ s.store.flash = imageBytes i then
              (s.setStore { s.store with state := .idle, seq := i.seq }).setReader
                { s.reader with storeCard := ended (Completion.mk .ok 0 0 [(24, leBytes 4 i.seq)]) }
            else s.setStore { s.store with state := .writing .clearing i, flash := List.replicate 681 255 }))
        ∧ (s.store.state = .writing .clearing i → exec .storeEraseEnd s = .next
          ((s.setStore { s.store with state := .idle }).setReader
            { s.reader with storeCard := ended (Completion.mk .link 0 0 [(24, leBytes 4 s.store.seq)]) }))

/-! ### The REPORT card -/

/-- The REPORT card (R22 to R25): BAD_FIELD for a buffer that is not 8-byte aligned; otherwise the run of entries
copied in one step, written in transfers of at most 16 entries, and completed OK, or LINK at a transfer that fails.
The report entry has its fields at their places (R24, R177). (The returns of the BAD_FIELD completion: assumption log 23; that
every transfer but the last carries 16: 31; that a failed transfer leaves host memory as it was: 4.) -/
def Obligations.ReportCopiesAndWrites : Prop :=
  (∀ (s : State) (h : Hand) (bytes : List Byte), Settled s → s.actingOn .report = some (h, bytes) →
    let copy := (s.table.drop (h.arg 24 2)).take h.count
    copy.length = (if h.arg 24 2 < s.table.length then min h.count (s.table.length - h.arg 24 2) else 0)
      ∧ exec .report s = .next
        (if h.listAddr % 8 ≠ 0 then complete h
            { result := .badField, remaining := h.count, detail := 0,
              returns := [(32, leBytes 2 0 ++ leBytes 2 s.table.length ++ leBytes 2 s.stager.cueCounter)] } s
          else if copy = [] then complete h
            { result := .ok, remaining := 0, detail := 0,
              returns := [(32, leBytes 2 0 ++ leBytes 2 s.table.length ++ leBytes 2 s.stager.cueCounter)] } s
          else s.setReader { s.reader with
            hand := some { h with phase := .reporting copy 0 copy.length s.table.length s.stager.cueCounter } }))
    ∧ (∀ (s : State) (h : Hand) (rest : List Entry) (n w total cue : Nat), Settled s → s.reader.hand = some h →
      h.phase = .reporting rest n w total cue →
      let returns := fun k => [(32, leBytes 2 k ++ leBytes 2 total ++ leBytes 2 cue)]
      let landed := s.setHostMem (s.hostMem.putAll (h.listAddr + 16 * n) ((rest.take 16).flatMap reportEntryBytes))
      exec (.reportTransferEnd true) s = .next
          (if rest.length ≤ 16 then complete h { result := .ok, remaining := 0, detail := 0, returns := returns w } landed
            else landed.setReader { s.reader with hand := some { h with phase := .reporting (rest.drop 16) (n + 16) w total cue } })
        ∧ exec (.reportTransferEnd false) s = .next
          (complete h { result := .link, remaining := w - n, detail := 0, returns := returns n } s))
    ∧ ∀ e : Entry, (reportEntryBytes e).length = 16
      ∧ (∀ x ∈ [(0, 1, e.key.sourceCode), (1, 1, e.key.destCode), (2, 1, match e.motion with
            | .settled => 0 | .ramping _ _ => 1 | .dipDown _ _ _ _ => 2 | .dipUp _ _ => 3 | .retiring _ _ => 4),
          (3, 1, 0), (10, 2, e.delay), (12, 2, match e.motion with
            | .settled => 0 | .ramping _ n => n | .dipDown _ n _ _ => n | .dipUp _ n => n | .retiring _ n => n),
          (14, 2, e.lastCue)], field (reportEntryBytes e) x.1 x.2.1 = x.2.2 % 256 ^ x.2.1)
      ∧ ∀ x ∈ [(4, e.requested), (6, e.target), (8, e.current)], isGain x.2 → field16s (reportEntryBytes e) x.1 = x.2
end

