-- ==== Sys2Proof/Laws/Bytes.lean ====
section
/-! SUPPORT. Numbers, fields and flag sets as bytes, one byte at a time; and how a list of bytes is cut into items. -/

namespace Sys2Proof.Machine

@[simp] theorem leBytes_length (n v : Nat) : (leBytes n v).length = n := by
  induction n generalizing v with
  | zero => rfl
  | succ n ih => simp [leBytes, ih]

/-- Byte i of a number is its i-th digit in base 256 (R6). -/
theorem leBytes_getElem? (n v i : Nat) (h : i < n) : (leBytes n v)[i]? = some (BitVec.ofNat 8 (v / 256 ^ i)) := by
  induction n generalizing v i with
  | zero => omega
  | succ n ih =>
    cases i with
    | zero => simp [leBytes]
    | succ i =>
      simp only [leBytes, List.getElem?_cons_succ]
      rw [ih _ _ (by omega), Nat.div_div_eq_div_mul, Nat.pow_succ, Nat.mul_comm]

theorem leNat_take_succ (l : List Byte) (n : Nat) :
    leNat (l.take (n + 1)) = leNat (l.take n) + 256 ^ n * (l.getD n 0).toNat := by
  induction n generalizing l with
  | zero => cases l <;> simp [leNat]
  | succ n ih =>
    cases l with
    | nil => simp [leNat]
    | cons b bs =>
      rw [List.take_succ_cons, List.take_succ_cons, leNat, leNat, ih bs]
      simp [Nat.pow_succ]; ring

@[simp] theorem field_zero (b : List Byte) (i : Nat) : field b i 0 = 0 := by simp [field, leNat]

/-- A field of one byte more takes its last byte at 256 times the weight of the one before. -/
theorem field_succ (b : List Byte) (i n : Nat) : field b i (n + 1) = field b i n + 256 ^ n * (b.getD (i + n) 0).toNat := by
  simp only [field, leNat_take_succ]
  simp [List.getD_eq_getElem?_getD]

theorem field_lt (b : List Byte) (i n : Nat) : field b i n < 256 ^ n := by
  induction n with
  | zero => simp
  | succ n ih =>
    rw [field_succ, Nat.pow_succ]
    have := (b.getD (i + n) 0).isLt
    nlinarith [Nat.pos_of_ne_zero (show 256 ^ n ≠ 0 by positivity)]

/-- A gain field is its 16 bits as a signed number (R6). -/
theorem field16s_eq (b : List Byte) (i : Nat) :
    field16s b i = (if field b i 2 < 32768 then (field b i 2 : Int) else (field b i 2 : Int) - 65536) := by
  have := field_lt b i 2
  unfold field16s
  rw [BitVec.toInt_eq_toNat_cond]
  simp only [BitVec.toNat_ofNat]
  rw [Nat.mod_eq_of_lt (by omega)]
  split <;> split <;> omega

/-- Flag i of a set is bit i of its number (R173). -/
theorem flagsNat_testBit (fs : List Bool) (i : Nat) : (flagsNat fs).testBit i = fs.getD i false := by
  induction fs generalizing i with
  | nil => simp [flagsNat]
  | cons b fs ih =>
    cases i with
    | zero => cases b <;> simp [flagsNat, Nat.testBit_zero]
    | succ i =>
      rw [Nat.testBit_succ]
      have : (flagsNat (b :: fs)) / 2 = flagsNat fs := by cases b <;> (simp [flagsNat]; try omega)
      rw [this, ih]; simp

/-- A field of a record within a record. -/
theorem field_take_drop (b : List Byte) (o size i n : Nat) (h : i + n ≤ size) :
    field ((b.drop o).take size) i n = field b (o + i) n := by
  simp only [field, List.drop_take, List.take_take, List.drop_drop]
  congr 2; omega

/-- Record i of a run of records is cut out at its place. -/
@[simp] theorem vectorField_getElem {α : Type} (b : List Byte) (off size n : Nat) (f : List Byte → α) (i : Fin n) :
    (vectorField b off size n f)[i] = f ((b.drop (off + size * i.val)).take size) := by
  simp [vectorField]

@[simp] theorem itemsOf_length (size n : Nat) (b : List Byte) : (itemsOf size n b).length = n := by
  induction n generalizing b with
  | zero => rfl
  | succ n ih => simp [itemsOf, ih]

/-- Item i of a list starts i items into its bytes. -/
theorem itemsOf_getElem? (size n i : Nat) (b : List Byte) (h : i < n) :
    (itemsOf size n b)[i]? = some ((b.drop (size * i)).take size) := by
  induction n generalizing i b with
  | zero => omega
  | succ n ih =>
    cases i with
    | zero => simp [itemsOf]
    | succ i =>
      simp only [itemsOf, List.getElem?_cons_succ]
      rw [ih i _ (by omega), List.drop_drop, Nat.mul_succ, Nat.add_comm]

end Sys2Proof.Machine
end

