-- ==== Sys2Proof/Laws/State.lean ====
section
/-! SUPPORT. Each update of the state, field by field, so that no proof unfolds a record update. -/

namespace Sys2Proof.Machine

/-! ### `setHostMem` -/

section
variable (s : State) (x : HostMem)

@[simp] theorem State.setHostMem_hostMem : (s.setHostMem x).hostMem = x := rfl
@[simp] theorem State.setHostMem_regs : (s.setHostMem x).regs = s.regs := rfl
@[simp] theorem State.setHostMem_root : (s.setHostMem x).root = s.root := rfl
@[simp] theorem State.setHostMem_progress : (s.setHostMem x).progress = s.progress := rfl
@[simp] theorem State.setHostMem_engine : (s.setHostMem x).engine = s.engine := rfl
@[simp] theorem State.setHostMem_reader : (s.setHostMem x).reader = s.reader := rfl
@[simp] theorem State.setHostMem_stager : (s.setHostMem x).stager = s.stager := rfl
@[simp] theorem State.setHostMem_table : (s.setHostMem x).table = s.table := rfl
@[simp] theorem State.setHostMem_budget : (s.setHostMem x).budget = s.budget := rfl
@[simp] theorem State.setHostMem_mix : (s.setHostMem x).mix = s.mix := rfl
@[simp] theorem State.setHostMem_tails : (s.setHostMem x).tails = s.tails := rfl
@[simp] theorem State.setHostMem_sup : (s.setHostMem x).sup = s.sup := rfl
@[simp] theorem State.setHostMem_meter : (s.setHostMem x).meter = s.meter := rfl
@[simp] theorem State.setHostMem_cue : (s.setHostMem x).cue = s.cue := rfl
@[simp] theorem State.setHostMem_notice : (s.setHostMem x).notice = s.notice := rfl
@[simp] theorem State.setHostMem_prot : (s.setHostMem x).prot = s.prot := rfl
@[simp] theorem State.setHostMem_store : (s.setHostMem x).store = s.store := rfl
@[simp] theorem State.setHostMem_due : (s.setHostMem x).due = s.due := rfl
@[simp] theorem State.setHostMem_freeIndex : (s.setHostMem x).freeIndex = s.freeIndex := rfl
@[simp] theorem State.setHostMem_pending : (s.setHostMem x).pending = s.pending := rfl
end

/-! ### `setRegs` -/

section
variable (s : State) (x : Regs)

@[simp] theorem State.setRegs_hostMem : (s.setRegs x).hostMem = s.hostMem := rfl
@[simp] theorem State.setRegs_regs : (s.setRegs x).regs = x := rfl
@[simp] theorem State.setRegs_root : (s.setRegs x).root = s.root := rfl
@[simp] theorem State.setRegs_progress : (s.setRegs x).progress = s.progress := rfl
@[simp] theorem State.setRegs_engine : (s.setRegs x).engine = s.engine := rfl
@[simp] theorem State.setRegs_reader : (s.setRegs x).reader = s.reader := rfl
@[simp] theorem State.setRegs_stager : (s.setRegs x).stager = s.stager := rfl
@[simp] theorem State.setRegs_table : (s.setRegs x).table = s.table := rfl
@[simp] theorem State.setRegs_budget : (s.setRegs x).budget = s.budget := rfl
@[simp] theorem State.setRegs_mix : (s.setRegs x).mix = s.mix := rfl
@[simp] theorem State.setRegs_tails : (s.setRegs x).tails = s.tails := rfl
@[simp] theorem State.setRegs_sup : (s.setRegs x).sup = s.sup := rfl
@[simp] theorem State.setRegs_meter : (s.setRegs x).meter = s.meter := rfl
@[simp] theorem State.setRegs_cue : (s.setRegs x).cue = s.cue := rfl
@[simp] theorem State.setRegs_notice : (s.setRegs x).notice = s.notice := rfl
@[simp] theorem State.setRegs_prot : (s.setRegs x).prot = s.prot := rfl
@[simp] theorem State.setRegs_store : (s.setRegs x).store = s.store := rfl
@[simp] theorem State.setRegs_due : (s.setRegs x).due = s.due := rfl
@[simp] theorem State.setRegs_freeIndex : (s.setRegs x).freeIndex = s.freeIndex := rfl
@[simp] theorem State.setRegs_pending : (s.setRegs x).pending = s.pending := rfl
end

/-! ### `setRoot` -/

section
variable (s : State) (x : Option Root)

@[simp] theorem State.setRoot_hostMem : (s.setRoot x).hostMem = s.hostMem := rfl
@[simp] theorem State.setRoot_regs : (s.setRoot x).regs = s.regs := rfl
@[simp] theorem State.setRoot_root : (s.setRoot x).root = x := rfl
@[simp] theorem State.setRoot_progress : (s.setRoot x).progress = s.progress := rfl
@[simp] theorem State.setRoot_engine : (s.setRoot x).engine = s.engine := rfl
@[simp] theorem State.setRoot_reader : (s.setRoot x).reader = s.reader := rfl
@[simp] theorem State.setRoot_stager : (s.setRoot x).stager = s.stager := rfl
@[simp] theorem State.setRoot_table : (s.setRoot x).table = s.table := rfl
@[simp] theorem State.setRoot_budget : (s.setRoot x).budget = s.budget := rfl
@[simp] theorem State.setRoot_mix : (s.setRoot x).mix = s.mix := rfl
@[simp] theorem State.setRoot_tails : (s.setRoot x).tails = s.tails := rfl
@[simp] theorem State.setRoot_sup : (s.setRoot x).sup = s.sup := rfl
@[simp] theorem State.setRoot_meter : (s.setRoot x).meter = s.meter := rfl
@[simp] theorem State.setRoot_cue : (s.setRoot x).cue = s.cue := rfl
@[simp] theorem State.setRoot_notice : (s.setRoot x).notice = s.notice := rfl
@[simp] theorem State.setRoot_prot : (s.setRoot x).prot = s.prot := rfl
@[simp] theorem State.setRoot_store : (s.setRoot x).store = s.store := rfl
@[simp] theorem State.setRoot_due : (s.setRoot x).due = s.due := rfl
@[simp] theorem State.setRoot_freeIndex : (s.setRoot x).freeIndex = s.freeIndex := rfl
@[simp] theorem State.setRoot_pending : (s.setRoot x).pending = s.pending := rfl
end

/-! ### `setProgress` -/

section
variable (s : State) (x : Progress)

@[simp] theorem State.setProgress_hostMem : (s.setProgress x).hostMem = s.hostMem := rfl
@[simp] theorem State.setProgress_regs : (s.setProgress x).regs = s.regs := rfl
@[simp] theorem State.setProgress_root : (s.setProgress x).root = s.root := rfl
@[simp] theorem State.setProgress_progress : (s.setProgress x).progress = x := rfl
@[simp] theorem State.setProgress_engine : (s.setProgress x).engine = s.engine := rfl
@[simp] theorem State.setProgress_reader : (s.setProgress x).reader = s.reader := rfl
@[simp] theorem State.setProgress_stager : (s.setProgress x).stager = s.stager := rfl
@[simp] theorem State.setProgress_table : (s.setProgress x).table = s.table := rfl
@[simp] theorem State.setProgress_budget : (s.setProgress x).budget = s.budget := rfl
@[simp] theorem State.setProgress_mix : (s.setProgress x).mix = s.mix := rfl
@[simp] theorem State.setProgress_tails : (s.setProgress x).tails = s.tails := rfl
@[simp] theorem State.setProgress_sup : (s.setProgress x).sup = s.sup := rfl
@[simp] theorem State.setProgress_meter : (s.setProgress x).meter = s.meter := rfl
@[simp] theorem State.setProgress_cue : (s.setProgress x).cue = s.cue := rfl
@[simp] theorem State.setProgress_notice : (s.setProgress x).notice = s.notice := rfl
@[simp] theorem State.setProgress_prot : (s.setProgress x).prot = s.prot := rfl
@[simp] theorem State.setProgress_store : (s.setProgress x).store = s.store := rfl
@[simp] theorem State.setProgress_due : (s.setProgress x).due = s.due := rfl
@[simp] theorem State.setProgress_freeIndex : (s.setProgress x).freeIndex = s.freeIndex := rfl
@[simp] theorem State.setProgress_pending : (s.setProgress x).pending = s.pending := rfl
end

/-! ### `setEngine` -/

section
variable (s : State) (x : Engine)

@[simp] theorem State.setEngine_hostMem : (s.setEngine x).hostMem = s.hostMem := rfl
@[simp] theorem State.setEngine_regs : (s.setEngine x).regs = s.regs := rfl
@[simp] theorem State.setEngine_root : (s.setEngine x).root = s.root := rfl
@[simp] theorem State.setEngine_progress : (s.setEngine x).progress = s.progress := rfl
@[simp] theorem State.setEngine_engine : (s.setEngine x).engine = x := rfl
@[simp] theorem State.setEngine_reader : (s.setEngine x).reader = s.reader := rfl
@[simp] theorem State.setEngine_stager : (s.setEngine x).stager = s.stager := rfl
@[simp] theorem State.setEngine_table : (s.setEngine x).table = s.table := rfl
@[simp] theorem State.setEngine_budget : (s.setEngine x).budget = s.budget := rfl
@[simp] theorem State.setEngine_mix : (s.setEngine x).mix = s.mix := rfl
@[simp] theorem State.setEngine_tails : (s.setEngine x).tails = s.tails := rfl
@[simp] theorem State.setEngine_sup : (s.setEngine x).sup = s.sup := rfl
@[simp] theorem State.setEngine_meter : (s.setEngine x).meter = s.meter := rfl
@[simp] theorem State.setEngine_cue : (s.setEngine x).cue = s.cue := rfl
@[simp] theorem State.setEngine_notice : (s.setEngine x).notice = s.notice := rfl
@[simp] theorem State.setEngine_prot : (s.setEngine x).prot = s.prot := rfl
@[simp] theorem State.setEngine_store : (s.setEngine x).store = s.store := rfl
@[simp] theorem State.setEngine_due : (s.setEngine x).due = s.due := rfl
@[simp] theorem State.setEngine_freeIndex : (s.setEngine x).freeIndex = s.freeIndex := rfl
@[simp] theorem State.setEngine_pending : (s.setEngine x).pending = s.pending := rfl
end

/-! ### `setReader` -/

section
variable (s : State) (x : Reader)

@[simp] theorem State.setReader_hostMem : (s.setReader x).hostMem = s.hostMem := rfl
@[simp] theorem State.setReader_regs : (s.setReader x).regs = s.regs := rfl
@[simp] theorem State.setReader_root : (s.setReader x).root = s.root := rfl
@[simp] theorem State.setReader_progress : (s.setReader x).progress = s.progress := rfl
@[simp] theorem State.setReader_engine : (s.setReader x).engine = s.engine := rfl
@[simp] theorem State.setReader_reader : (s.setReader x).reader = x := rfl
@[simp] theorem State.setReader_stager : (s.setReader x).stager = s.stager := rfl
@[simp] theorem State.setReader_table : (s.setReader x).table = s.table := rfl
@[simp] theorem State.setReader_budget : (s.setReader x).budget = s.budget := rfl
@[simp] theorem State.setReader_mix : (s.setReader x).mix = s.mix := rfl
@[simp] theorem State.setReader_tails : (s.setReader x).tails = s.tails := rfl
@[simp] theorem State.setReader_sup : (s.setReader x).sup = s.sup := rfl
@[simp] theorem State.setReader_meter : (s.setReader x).meter = s.meter := rfl
@[simp] theorem State.setReader_cue : (s.setReader x).cue = s.cue := rfl
@[simp] theorem State.setReader_notice : (s.setReader x).notice = s.notice := rfl
@[simp] theorem State.setReader_prot : (s.setReader x).prot = s.prot := rfl
@[simp] theorem State.setReader_store : (s.setReader x).store = s.store := rfl
@[simp] theorem State.setReader_due : (s.setReader x).due = s.due := rfl
@[simp] theorem State.setReader_freeIndex : (s.setReader x).freeIndex = s.freeIndex := rfl
@[simp] theorem State.setReader_pending : (s.setReader x).pending = s.pending := rfl
end

/-! ### `setStager` -/

section
variable (s : State) (x : Stager)

@[simp] theorem State.setStager_hostMem : (s.setStager x).hostMem = s.hostMem := rfl
@[simp] theorem State.setStager_regs : (s.setStager x).regs = s.regs := rfl
@[simp] theorem State.setStager_root : (s.setStager x).root = s.root := rfl
@[simp] theorem State.setStager_progress : (s.setStager x).progress = s.progress := rfl
@[simp] theorem State.setStager_engine : (s.setStager x).engine = s.engine := rfl
@[simp] theorem State.setStager_reader : (s.setStager x).reader = s.reader := rfl
@[simp] theorem State.setStager_stager : (s.setStager x).stager = x := rfl
@[simp] theorem State.setStager_table : (s.setStager x).table = s.table := rfl
@[simp] theorem State.setStager_budget : (s.setStager x).budget = s.budget := rfl
@[simp] theorem State.setStager_mix : (s.setStager x).mix = s.mix := rfl
@[simp] theorem State.setStager_tails : (s.setStager x).tails = s.tails := rfl
@[simp] theorem State.setStager_sup : (s.setStager x).sup = s.sup := rfl
@[simp] theorem State.setStager_meter : (s.setStager x).meter = s.meter := rfl
@[simp] theorem State.setStager_cue : (s.setStager x).cue = s.cue := rfl
@[simp] theorem State.setStager_notice : (s.setStager x).notice = s.notice := rfl
@[simp] theorem State.setStager_prot : (s.setStager x).prot = s.prot := rfl
@[simp] theorem State.setStager_store : (s.setStager x).store = s.store := rfl
@[simp] theorem State.setStager_due : (s.setStager x).due = s.due := rfl
@[simp] theorem State.setStager_freeIndex : (s.setStager x).freeIndex = s.freeIndex := rfl
@[simp] theorem State.setStager_pending : (s.setStager x).pending = s.pending := rfl
end

/-! ### `setTable` -/

section
variable (s : State) (x : List Entry)

@[simp] theorem State.setTable_hostMem : (s.setTable x).hostMem = s.hostMem := rfl
@[simp] theorem State.setTable_regs : (s.setTable x).regs = s.regs := rfl
@[simp] theorem State.setTable_root : (s.setTable x).root = s.root := rfl
@[simp] theorem State.setTable_progress : (s.setTable x).progress = s.progress := rfl
@[simp] theorem State.setTable_engine : (s.setTable x).engine = s.engine := rfl
@[simp] theorem State.setTable_reader : (s.setTable x).reader = s.reader := rfl
@[simp] theorem State.setTable_stager : (s.setTable x).stager = s.stager := rfl
@[simp] theorem State.setTable_table : (s.setTable x).table = x := rfl
@[simp] theorem State.setTable_budget : (s.setTable x).budget = s.budget := rfl
@[simp] theorem State.setTable_mix : (s.setTable x).mix = s.mix := rfl
@[simp] theorem State.setTable_tails : (s.setTable x).tails = s.tails := rfl
@[simp] theorem State.setTable_sup : (s.setTable x).sup = s.sup := rfl
@[simp] theorem State.setTable_meter : (s.setTable x).meter = s.meter := rfl
@[simp] theorem State.setTable_cue : (s.setTable x).cue = s.cue := rfl
@[simp] theorem State.setTable_notice : (s.setTable x).notice = s.notice := rfl
@[simp] theorem State.setTable_prot : (s.setTable x).prot = s.prot := rfl
@[simp] theorem State.setTable_store : (s.setTable x).store = s.store := rfl
@[simp] theorem State.setTable_due : (s.setTable x).due = s.due := rfl
@[simp] theorem State.setTable_freeIndex : (s.setTable x).freeIndex = s.freeIndex := rfl
@[simp] theorem State.setTable_pending : (s.setTable x).pending = s.pending := rfl
end

/-! ### `setBudget` -/

section
variable (s : State) (x : Budget)

@[simp] theorem State.setBudget_hostMem : (s.setBudget x).hostMem = s.hostMem := rfl
@[simp] theorem State.setBudget_regs : (s.setBudget x).regs = s.regs := rfl
@[simp] theorem State.setBudget_root : (s.setBudget x).root = s.root := rfl
@[simp] theorem State.setBudget_progress : (s.setBudget x).progress = s.progress := rfl
@[simp] theorem State.setBudget_engine : (s.setBudget x).engine = s.engine := rfl
@[simp] theorem State.setBudget_reader : (s.setBudget x).reader = s.reader := rfl
@[simp] theorem State.setBudget_stager : (s.setBudget x).stager = s.stager := rfl
@[simp] theorem State.setBudget_table : (s.setBudget x).table = s.table := rfl
@[simp] theorem State.setBudget_budget : (s.setBudget x).budget = x := rfl
@[simp] theorem State.setBudget_mix : (s.setBudget x).mix = s.mix := rfl
@[simp] theorem State.setBudget_tails : (s.setBudget x).tails = s.tails := rfl
@[simp] theorem State.setBudget_sup : (s.setBudget x).sup = s.sup := rfl
@[simp] theorem State.setBudget_meter : (s.setBudget x).meter = s.meter := rfl
@[simp] theorem State.setBudget_cue : (s.setBudget x).cue = s.cue := rfl
@[simp] theorem State.setBudget_notice : (s.setBudget x).notice = s.notice := rfl
@[simp] theorem State.setBudget_prot : (s.setBudget x).prot = s.prot := rfl
@[simp] theorem State.setBudget_store : (s.setBudget x).store = s.store := rfl
@[simp] theorem State.setBudget_due : (s.setBudget x).due = s.due := rfl
@[simp] theorem State.setBudget_freeIndex : (s.setBudget x).freeIndex = s.freeIndex := rfl
@[simp] theorem State.setBudget_pending : (s.setBudget x).pending = s.pending := rfl
end

/-! ### `setMix` -/

section
variable (s : State) (x : Mix)

@[simp] theorem State.setMix_hostMem : (s.setMix x).hostMem = s.hostMem := rfl
@[simp] theorem State.setMix_regs : (s.setMix x).regs = s.regs := rfl
@[simp] theorem State.setMix_root : (s.setMix x).root = s.root := rfl
@[simp] theorem State.setMix_progress : (s.setMix x).progress = s.progress := rfl
@[simp] theorem State.setMix_engine : (s.setMix x).engine = s.engine := rfl
@[simp] theorem State.setMix_reader : (s.setMix x).reader = s.reader := rfl
@[simp] theorem State.setMix_stager : (s.setMix x).stager = s.stager := rfl
@[simp] theorem State.setMix_table : (s.setMix x).table = s.table := rfl
@[simp] theorem State.setMix_budget : (s.setMix x).budget = s.budget := rfl
@[simp] theorem State.setMix_mix : (s.setMix x).mix = x := rfl
@[simp] theorem State.setMix_tails : (s.setMix x).tails = s.tails := rfl
@[simp] theorem State.setMix_sup : (s.setMix x).sup = s.sup := rfl
@[simp] theorem State.setMix_meter : (s.setMix x).meter = s.meter := rfl
@[simp] theorem State.setMix_cue : (s.setMix x).cue = s.cue := rfl
@[simp] theorem State.setMix_notice : (s.setMix x).notice = s.notice := rfl
@[simp] theorem State.setMix_prot : (s.setMix x).prot = s.prot := rfl
@[simp] theorem State.setMix_store : (s.setMix x).store = s.store := rfl
@[simp] theorem State.setMix_due : (s.setMix x).due = s.due := rfl
@[simp] theorem State.setMix_freeIndex : (s.setMix x).freeIndex = s.freeIndex := rfl
@[simp] theorem State.setMix_pending : (s.setMix x).pending = s.pending := rfl
end

/-! ### `setTails` -/

section
variable (s : State) (x : TailBank)

@[simp] theorem State.setTails_hostMem : (s.setTails x).hostMem = s.hostMem := rfl
@[simp] theorem State.setTails_regs : (s.setTails x).regs = s.regs := rfl
@[simp] theorem State.setTails_root : (s.setTails x).root = s.root := rfl
@[simp] theorem State.setTails_progress : (s.setTails x).progress = s.progress := rfl
@[simp] theorem State.setTails_engine : (s.setTails x).engine = s.engine := rfl
@[simp] theorem State.setTails_reader : (s.setTails x).reader = s.reader := rfl
@[simp] theorem State.setTails_stager : (s.setTails x).stager = s.stager := rfl
@[simp] theorem State.setTails_table : (s.setTails x).table = s.table := rfl
@[simp] theorem State.setTails_budget : (s.setTails x).budget = s.budget := rfl
@[simp] theorem State.setTails_mix : (s.setTails x).mix = s.mix := rfl
@[simp] theorem State.setTails_tails : (s.setTails x).tails = x := rfl
@[simp] theorem State.setTails_sup : (s.setTails x).sup = s.sup := rfl
@[simp] theorem State.setTails_meter : (s.setTails x).meter = s.meter := rfl
@[simp] theorem State.setTails_cue : (s.setTails x).cue = s.cue := rfl
@[simp] theorem State.setTails_notice : (s.setTails x).notice = s.notice := rfl
@[simp] theorem State.setTails_prot : (s.setTails x).prot = s.prot := rfl
@[simp] theorem State.setTails_store : (s.setTails x).store = s.store := rfl
@[simp] theorem State.setTails_due : (s.setTails x).due = s.due := rfl
@[simp] theorem State.setTails_freeIndex : (s.setTails x).freeIndex = s.freeIndex := rfl
@[simp] theorem State.setTails_pending : (s.setTails x).pending = s.pending := rfl
end

/-! ### `setSup` -/

section
variable (s : State) (x : Supervisor)

@[simp] theorem State.setSup_hostMem : (s.setSup x).hostMem = s.hostMem := rfl
@[simp] theorem State.setSup_regs : (s.setSup x).regs = s.regs := rfl
@[simp] theorem State.setSup_root : (s.setSup x).root = s.root := rfl
@[simp] theorem State.setSup_progress : (s.setSup x).progress = s.progress := rfl
@[simp] theorem State.setSup_engine : (s.setSup x).engine = s.engine := rfl
@[simp] theorem State.setSup_reader : (s.setSup x).reader = s.reader := rfl
@[simp] theorem State.setSup_stager : (s.setSup x).stager = s.stager := rfl
@[simp] theorem State.setSup_table : (s.setSup x).table = s.table := rfl
@[simp] theorem State.setSup_budget : (s.setSup x).budget = s.budget := rfl
@[simp] theorem State.setSup_mix : (s.setSup x).mix = s.mix := rfl
@[simp] theorem State.setSup_tails : (s.setSup x).tails = s.tails := rfl
@[simp] theorem State.setSup_sup : (s.setSup x).sup = x := rfl
@[simp] theorem State.setSup_meter : (s.setSup x).meter = s.meter := rfl
@[simp] theorem State.setSup_cue : (s.setSup x).cue = s.cue := rfl
@[simp] theorem State.setSup_notice : (s.setSup x).notice = s.notice := rfl
@[simp] theorem State.setSup_prot : (s.setSup x).prot = s.prot := rfl
@[simp] theorem State.setSup_store : (s.setSup x).store = s.store := rfl
@[simp] theorem State.setSup_due : (s.setSup x).due = s.due := rfl
@[simp] theorem State.setSup_freeIndex : (s.setSup x).freeIndex = s.freeIndex := rfl
@[simp] theorem State.setSup_pending : (s.setSup x).pending = s.pending := rfl
end

/-! ### `setMeter` -/

section
variable (s : State) (x : Meter)

@[simp] theorem State.setMeter_hostMem : (s.setMeter x).hostMem = s.hostMem := rfl
@[simp] theorem State.setMeter_regs : (s.setMeter x).regs = s.regs := rfl
@[simp] theorem State.setMeter_root : (s.setMeter x).root = s.root := rfl
@[simp] theorem State.setMeter_progress : (s.setMeter x).progress = s.progress := rfl
@[simp] theorem State.setMeter_engine : (s.setMeter x).engine = s.engine := rfl
@[simp] theorem State.setMeter_reader : (s.setMeter x).reader = s.reader := rfl
@[simp] theorem State.setMeter_stager : (s.setMeter x).stager = s.stager := rfl
@[simp] theorem State.setMeter_table : (s.setMeter x).table = s.table := rfl
@[simp] theorem State.setMeter_budget : (s.setMeter x).budget = s.budget := rfl
@[simp] theorem State.setMeter_mix : (s.setMeter x).mix = s.mix := rfl
@[simp] theorem State.setMeter_tails : (s.setMeter x).tails = s.tails := rfl
@[simp] theorem State.setMeter_sup : (s.setMeter x).sup = s.sup := rfl
@[simp] theorem State.setMeter_meter : (s.setMeter x).meter = x := rfl
@[simp] theorem State.setMeter_cue : (s.setMeter x).cue = s.cue := rfl
@[simp] theorem State.setMeter_notice : (s.setMeter x).notice = s.notice := rfl
@[simp] theorem State.setMeter_prot : (s.setMeter x).prot = s.prot := rfl
@[simp] theorem State.setMeter_store : (s.setMeter x).store = s.store := rfl
@[simp] theorem State.setMeter_due : (s.setMeter x).due = s.due := rfl
@[simp] theorem State.setMeter_freeIndex : (s.setMeter x).freeIndex = s.freeIndex := rfl
@[simp] theorem State.setMeter_pending : (s.setMeter x).pending = s.pending := rfl
end

/-! ### `setCue` -/

section
variable (s : State) (x : CueLine)

@[simp] theorem State.setCue_hostMem : (s.setCue x).hostMem = s.hostMem := rfl
@[simp] theorem State.setCue_regs : (s.setCue x).regs = s.regs := rfl
@[simp] theorem State.setCue_root : (s.setCue x).root = s.root := rfl
@[simp] theorem State.setCue_progress : (s.setCue x).progress = s.progress := rfl
@[simp] theorem State.setCue_engine : (s.setCue x).engine = s.engine := rfl
@[simp] theorem State.setCue_reader : (s.setCue x).reader = s.reader := rfl
@[simp] theorem State.setCue_stager : (s.setCue x).stager = s.stager := rfl
@[simp] theorem State.setCue_table : (s.setCue x).table = s.table := rfl
@[simp] theorem State.setCue_budget : (s.setCue x).budget = s.budget := rfl
@[simp] theorem State.setCue_mix : (s.setCue x).mix = s.mix := rfl
@[simp] theorem State.setCue_tails : (s.setCue x).tails = s.tails := rfl
@[simp] theorem State.setCue_sup : (s.setCue x).sup = s.sup := rfl
@[simp] theorem State.setCue_meter : (s.setCue x).meter = s.meter := rfl
@[simp] theorem State.setCue_cue : (s.setCue x).cue = x := rfl
@[simp] theorem State.setCue_notice : (s.setCue x).notice = s.notice := rfl
@[simp] theorem State.setCue_prot : (s.setCue x).prot = s.prot := rfl
@[simp] theorem State.setCue_store : (s.setCue x).store = s.store := rfl
@[simp] theorem State.setCue_due : (s.setCue x).due = s.due := rfl
@[simp] theorem State.setCue_freeIndex : (s.setCue x).freeIndex = s.freeIndex := rfl
@[simp] theorem State.setCue_pending : (s.setCue x).pending = s.pending := rfl
end

/-! ### `setNotice` -/

section
variable (s : State) (x : NoticeUnit)

@[simp] theorem State.setNotice_hostMem : (s.setNotice x).hostMem = s.hostMem := rfl
@[simp] theorem State.setNotice_regs : (s.setNotice x).regs = s.regs := rfl
@[simp] theorem State.setNotice_root : (s.setNotice x).root = s.root := rfl
@[simp] theorem State.setNotice_progress : (s.setNotice x).progress = s.progress := rfl
@[simp] theorem State.setNotice_engine : (s.setNotice x).engine = s.engine := rfl
@[simp] theorem State.setNotice_reader : (s.setNotice x).reader = s.reader := rfl
@[simp] theorem State.setNotice_stager : (s.setNotice x).stager = s.stager := rfl
@[simp] theorem State.setNotice_table : (s.setNotice x).table = s.table := rfl
@[simp] theorem State.setNotice_budget : (s.setNotice x).budget = s.budget := rfl
@[simp] theorem State.setNotice_mix : (s.setNotice x).mix = s.mix := rfl
@[simp] theorem State.setNotice_tails : (s.setNotice x).tails = s.tails := rfl
@[simp] theorem State.setNotice_sup : (s.setNotice x).sup = s.sup := rfl
@[simp] theorem State.setNotice_meter : (s.setNotice x).meter = s.meter := rfl
@[simp] theorem State.setNotice_cue : (s.setNotice x).cue = s.cue := rfl
@[simp] theorem State.setNotice_notice : (s.setNotice x).notice = x := rfl
@[simp] theorem State.setNotice_prot : (s.setNotice x).prot = s.prot := rfl
@[simp] theorem State.setNotice_store : (s.setNotice x).store = s.store := rfl
@[simp] theorem State.setNotice_due : (s.setNotice x).due = s.due := rfl
@[simp] theorem State.setNotice_freeIndex : (s.setNotice x).freeIndex = s.freeIndex := rfl
@[simp] theorem State.setNotice_pending : (s.setNotice x).pending = s.pending := rfl
end

/-! ### `setProt` -/

section
variable (s : State) (x : Protect)

@[simp] theorem State.setProt_hostMem : (s.setProt x).hostMem = s.hostMem := rfl
@[simp] theorem State.setProt_regs : (s.setProt x).regs = s.regs := rfl
@[simp] theorem State.setProt_root : (s.setProt x).root = s.root := rfl
@[simp] theorem State.setProt_progress : (s.setProt x).progress = s.progress := rfl
@[simp] theorem State.setProt_engine : (s.setProt x).engine = s.engine := rfl
@[simp] theorem State.setProt_reader : (s.setProt x).reader = s.reader := rfl
@[simp] theorem State.setProt_stager : (s.setProt x).stager = s.stager := rfl
@[simp] theorem State.setProt_table : (s.setProt x).table = s.table := rfl
@[simp] theorem State.setProt_budget : (s.setProt x).budget = s.budget := rfl
@[simp] theorem State.setProt_mix : (s.setProt x).mix = s.mix := rfl
@[simp] theorem State.setProt_tails : (s.setProt x).tails = s.tails := rfl
@[simp] theorem State.setProt_sup : (s.setProt x).sup = s.sup := rfl
@[simp] theorem State.setProt_meter : (s.setProt x).meter = s.meter := rfl
@[simp] theorem State.setProt_cue : (s.setProt x).cue = s.cue := rfl
@[simp] theorem State.setProt_notice : (s.setProt x).notice = s.notice := rfl
@[simp] theorem State.setProt_prot : (s.setProt x).prot = x := rfl
@[simp] theorem State.setProt_store : (s.setProt x).store = s.store := rfl
@[simp] theorem State.setProt_due : (s.setProt x).due = s.due := rfl
@[simp] theorem State.setProt_freeIndex : (s.setProt x).freeIndex = s.freeIndex := rfl
@[simp] theorem State.setProt_pending : (s.setProt x).pending = s.pending := rfl
end

/-! ### `setStore` -/

section
variable (s : State) (x : Store)

@[simp] theorem State.setStore_hostMem : (s.setStore x).hostMem = s.hostMem := rfl
@[simp] theorem State.setStore_regs : (s.setStore x).regs = s.regs := rfl
@[simp] theorem State.setStore_root : (s.setStore x).root = s.root := rfl
@[simp] theorem State.setStore_progress : (s.setStore x).progress = s.progress := rfl
@[simp] theorem State.setStore_engine : (s.setStore x).engine = s.engine := rfl
@[simp] theorem State.setStore_reader : (s.setStore x).reader = s.reader := rfl
@[simp] theorem State.setStore_stager : (s.setStore x).stager = s.stager := rfl
@[simp] theorem State.setStore_table : (s.setStore x).table = s.table := rfl
@[simp] theorem State.setStore_budget : (s.setStore x).budget = s.budget := rfl
@[simp] theorem State.setStore_mix : (s.setStore x).mix = s.mix := rfl
@[simp] theorem State.setStore_tails : (s.setStore x).tails = s.tails := rfl
@[simp] theorem State.setStore_sup : (s.setStore x).sup = s.sup := rfl
@[simp] theorem State.setStore_meter : (s.setStore x).meter = s.meter := rfl
@[simp] theorem State.setStore_cue : (s.setStore x).cue = s.cue := rfl
@[simp] theorem State.setStore_notice : (s.setStore x).notice = s.notice := rfl
@[simp] theorem State.setStore_prot : (s.setStore x).prot = s.prot := rfl
@[simp] theorem State.setStore_store : (s.setStore x).store = x := rfl
@[simp] theorem State.setStore_due : (s.setStore x).due = s.due := rfl
@[simp] theorem State.setStore_freeIndex : (s.setStore x).freeIndex = s.freeIndex := rfl
@[simp] theorem State.setStore_pending : (s.setStore x).pending = s.pending := rfl
end

/-! ### `setDue` -/

section
variable (s : State) (x : List Due)

@[simp] theorem State.setDue_hostMem : (s.setDue x).hostMem = s.hostMem := rfl
@[simp] theorem State.setDue_regs : (s.setDue x).regs = s.regs := rfl
@[simp] theorem State.setDue_root : (s.setDue x).root = s.root := rfl
@[simp] theorem State.setDue_progress : (s.setDue x).progress = s.progress := rfl
@[simp] theorem State.setDue_engine : (s.setDue x).engine = s.engine := rfl
@[simp] theorem State.setDue_reader : (s.setDue x).reader = s.reader := rfl
@[simp] theorem State.setDue_stager : (s.setDue x).stager = s.stager := rfl
@[simp] theorem State.setDue_table : (s.setDue x).table = s.table := rfl
@[simp] theorem State.setDue_budget : (s.setDue x).budget = s.budget := rfl
@[simp] theorem State.setDue_mix : (s.setDue x).mix = s.mix := rfl
@[simp] theorem State.setDue_tails : (s.setDue x).tails = s.tails := rfl
@[simp] theorem State.setDue_sup : (s.setDue x).sup = s.sup := rfl
@[simp] theorem State.setDue_meter : (s.setDue x).meter = s.meter := rfl
@[simp] theorem State.setDue_cue : (s.setDue x).cue = s.cue := rfl
@[simp] theorem State.setDue_notice : (s.setDue x).notice = s.notice := rfl
@[simp] theorem State.setDue_prot : (s.setDue x).prot = s.prot := rfl
@[simp] theorem State.setDue_store : (s.setDue x).store = s.store := rfl
@[simp] theorem State.setDue_due : (s.setDue x).due = x := rfl
@[simp] theorem State.setDue_freeIndex : (s.setDue x).freeIndex = s.freeIndex := rfl
@[simp] theorem State.setDue_pending : (s.setDue x).pending = s.pending := rfl
end

/-! ### `setFreeIndex` -/

section
variable (s : State) (x : Nat)

@[simp] theorem State.setFreeIndex_hostMem : (s.setFreeIndex x).hostMem = s.hostMem := rfl
@[simp] theorem State.setFreeIndex_regs : (s.setFreeIndex x).regs = s.regs := rfl
@[simp] theorem State.setFreeIndex_root : (s.setFreeIndex x).root = s.root := rfl
@[simp] theorem State.setFreeIndex_progress : (s.setFreeIndex x).progress = s.progress := rfl
@[simp] theorem State.setFreeIndex_engine : (s.setFreeIndex x).engine = s.engine := rfl
@[simp] theorem State.setFreeIndex_reader : (s.setFreeIndex x).reader = s.reader := rfl
@[simp] theorem State.setFreeIndex_stager : (s.setFreeIndex x).stager = s.stager := rfl
@[simp] theorem State.setFreeIndex_table : (s.setFreeIndex x).table = s.table := rfl
@[simp] theorem State.setFreeIndex_budget : (s.setFreeIndex x).budget = s.budget := rfl
@[simp] theorem State.setFreeIndex_mix : (s.setFreeIndex x).mix = s.mix := rfl
@[simp] theorem State.setFreeIndex_tails : (s.setFreeIndex x).tails = s.tails := rfl
@[simp] theorem State.setFreeIndex_sup : (s.setFreeIndex x).sup = s.sup := rfl
@[simp] theorem State.setFreeIndex_meter : (s.setFreeIndex x).meter = s.meter := rfl
@[simp] theorem State.setFreeIndex_cue : (s.setFreeIndex x).cue = s.cue := rfl
@[simp] theorem State.setFreeIndex_notice : (s.setFreeIndex x).notice = s.notice := rfl
@[simp] theorem State.setFreeIndex_prot : (s.setFreeIndex x).prot = s.prot := rfl
@[simp] theorem State.setFreeIndex_store : (s.setFreeIndex x).store = s.store := rfl
@[simp] theorem State.setFreeIndex_due : (s.setFreeIndex x).due = s.due := rfl
@[simp] theorem State.setFreeIndex_freeIndex : (s.setFreeIndex x).freeIndex = x := rfl
@[simp] theorem State.setFreeIndex_pending : (s.setFreeIndex x).pending = s.pending := rfl
end

/-! ### `withQueue` -/

section
variable (s : State) (x : List Instr)

@[simp] theorem State.withQueue_hostMem : (s.withQueue x).hostMem = s.hostMem := rfl
@[simp] theorem State.withQueue_regs : (s.withQueue x).regs = s.regs := rfl
@[simp] theorem State.withQueue_root : (s.withQueue x).root = s.root := rfl
@[simp] theorem State.withQueue_progress : (s.withQueue x).progress = s.progress := rfl
@[simp] theorem State.withQueue_engine : (s.withQueue x).engine = s.engine := rfl
@[simp] theorem State.withQueue_reader : (s.withQueue x).reader = s.reader := rfl
@[simp] theorem State.withQueue_stager : (s.withQueue x).stager = s.stager := rfl
@[simp] theorem State.withQueue_table : (s.withQueue x).table = s.table := rfl
@[simp] theorem State.withQueue_budget : (s.withQueue x).budget = s.budget := rfl
@[simp] theorem State.withQueue_mix : (s.withQueue x).mix = s.mix := rfl
@[simp] theorem State.withQueue_tails : (s.withQueue x).tails = s.tails := rfl
@[simp] theorem State.withQueue_sup : (s.withQueue x).sup = s.sup := rfl
@[simp] theorem State.withQueue_meter : (s.withQueue x).meter = s.meter := rfl
@[simp] theorem State.withQueue_cue : (s.withQueue x).cue = s.cue := rfl
@[simp] theorem State.withQueue_notice : (s.withQueue x).notice = s.notice := rfl
@[simp] theorem State.withQueue_prot : (s.withQueue x).prot = s.prot := rfl
@[simp] theorem State.withQueue_store : (s.withQueue x).store = s.store := rfl
@[simp] theorem State.withQueue_due : (s.withQueue x).due = s.due := rfl
@[simp] theorem State.withQueue_freeIndex : (s.withQueue x).freeIndex = s.freeIndex := rfl
@[simp] theorem State.withQueue_pending : (s.withQueue x).pending = x := rfl
end

/-! ### A part replaced twice, and a part replaced by itself -/

section
variable (s : State)

@[simp] theorem State.setHostMem_setHostMem (x y : HostMem) : (s.setHostMem x).setHostMem y = s.setHostMem y := rfl
@[simp] theorem State.setRegs_setRegs (x y : Regs) : (s.setRegs x).setRegs y = s.setRegs y := rfl
@[simp] theorem State.setRoot_setRoot (x y : Option Root) : (s.setRoot x).setRoot y = s.setRoot y := rfl
@[simp] theorem State.setProgress_setProgress (x y : Progress) : (s.setProgress x).setProgress y = s.setProgress y := rfl
@[simp] theorem State.setEngine_setEngine (x y : Engine) : (s.setEngine x).setEngine y = s.setEngine y := rfl
@[simp] theorem State.setReader_setReader (x y : Reader) : (s.setReader x).setReader y = s.setReader y := rfl
@[simp] theorem State.setStager_setStager (x y : Stager) : (s.setStager x).setStager y = s.setStager y := rfl
@[simp] theorem State.setTable_setTable (x y : List Entry) : (s.setTable x).setTable y = s.setTable y := rfl
@[simp] theorem State.setBudget_setBudget (x y : Budget) : (s.setBudget x).setBudget y = s.setBudget y := rfl
@[simp] theorem State.setMix_setMix (x y : Mix) : (s.setMix x).setMix y = s.setMix y := rfl
@[simp] theorem State.setTails_setTails (x y : TailBank) : (s.setTails x).setTails y = s.setTails y := rfl
@[simp] theorem State.setSup_setSup (x y : Supervisor) : (s.setSup x).setSup y = s.setSup y := rfl
@[simp] theorem State.setMeter_setMeter (x y : Meter) : (s.setMeter x).setMeter y = s.setMeter y := rfl
@[simp] theorem State.setCue_setCue (x y : CueLine) : (s.setCue x).setCue y = s.setCue y := rfl
@[simp] theorem State.setNotice_setNotice (x y : NoticeUnit) : (s.setNotice x).setNotice y = s.setNotice y := rfl
@[simp] theorem State.setProt_setProt (x y : Protect) : (s.setProt x).setProt y = s.setProt y := rfl
@[simp] theorem State.setStore_setStore (x y : Store) : (s.setStore x).setStore y = s.setStore y := rfl
@[simp] theorem State.setDue_setDue (x y : List Due) : (s.setDue x).setDue y = s.setDue y := rfl
@[simp] theorem State.setFreeIndex_setFreeIndex (x y : Nat) : (s.setFreeIndex x).setFreeIndex y = s.setFreeIndex y := rfl
@[simp] theorem State.setHostMem_self : s.setHostMem s.hostMem = s := rfl
@[simp] theorem State.setRegs_self : s.setRegs s.regs = s := rfl
@[simp] theorem State.setRoot_self : s.setRoot s.root = s := rfl
@[simp] theorem State.setProgress_self : s.setProgress s.progress = s := rfl
@[simp] theorem State.setEngine_self : s.setEngine s.engine = s := rfl
@[simp] theorem State.setReader_self : s.setReader s.reader = s := rfl
@[simp] theorem State.setStager_self : s.setStager s.stager = s := rfl
@[simp] theorem State.setTable_self : s.setTable s.table = s := rfl
@[simp] theorem State.setBudget_self : s.setBudget s.budget = s := rfl
@[simp] theorem State.setMix_self : s.setMix s.mix = s := rfl
@[simp] theorem State.setTails_self : s.setTails s.tails = s := rfl
@[simp] theorem State.setSup_self : s.setSup s.sup = s := rfl
@[simp] theorem State.setMeter_self : s.setMeter s.meter = s := rfl
@[simp] theorem State.setCue_self : s.setCue s.cue = s := rfl
@[simp] theorem State.setNotice_self : s.setNotice s.notice = s := rfl
@[simp] theorem State.setProt_self : s.setProt s.prot = s := rfl
@[simp] theorem State.setStore_self : s.setStore s.store = s := rfl
@[simp] theorem State.setDue_self : s.setDue s.due = s := rfl
@[simp] theorem State.setFreeIndex_self : s.setFreeIndex s.freeIndex = s := rfl
end

end Sys2Proof.Machine
end

