-- ==== Sys2Proof/Laws/Memory.lean ====
section
/-! SUPPORT. Host memory: a read after a write, and the canonical form under every operation. -/

namespace Sys2Proof.Machine

/-- The address written reads the byte written. -/
@[simp] theorem HostMem.read_put_same (m : HostMem) (a : Nat) (b : Byte) : (m.put a b).read a = some b := by
  induction m with
  | nil => simp [HostMem.put, HostMem.read]
  | cons x m ih =>
    obtain ⟨k, c⟩ := x
    simp only [HostMem.put]
    split
    · simp [HostMem.read]
    · split
      · simp [HostMem.read]
      · rename_i h1 h2
        simp [HostMem.read, Ne.symm h2, ih]

/-- Every other address reads as before. -/
theorem HostMem.read_put_other (m : HostMem) (a a' : Nat) (b : Byte) (h : a' ≠ a) : (m.put a b).read a' = m.read a' := by
  induction m with
  | nil => simp [HostMem.put, HostMem.read, Ne.symm h]
  | cons x m ih =>
    obtain ⟨k, c⟩ := x
    simp only [HostMem.put]
    split
    · simp [HostMem.read, Ne.symm h]
    · split
      · subst_vars
        simp [HostMem.read, Ne.symm h]
      · simp only [HostMem.read, ih]

/-- The addresses after a write are those before and the one written. -/
theorem HostMem.mem_put {m : HostMem} {a : Nat} {b : Byte} {x : Nat × Byte} (h : x ∈ m.put a b) : x.1 = a ∨ x ∈ m := by
  induction m with
  | nil => simp_all [HostMem.put]
  | cons y m ih =>
    obtain ⟨k, c⟩ := y
    simp only [HostMem.put] at h
    split at h
    · simp only [List.mem_cons] at h ⊢
      rcases h with rfl | h
      · exact .inl rfl
      · exact .inr h
    · split at h
      · simp only [List.mem_cons] at h ⊢
        rcases h with rfl | h
        · exact .inl rfl
        · exact .inr (.inr h)
      · simp only [List.mem_cons] at h ⊢
        rcases h with h | h
        · exact .inr (.inl h)
        · rcases ih h with h | h
          · exact .inl h
          · exact .inr (.inr h)

/-- A write keeps the canonical form. -/
theorem HostMem.put_wf {m : HostMem} (a : Nat) (b : Byte) (h : m.wf) : (m.put a b).wf := by
  induction m with
  | nil => simp [HostMem.put, HostMem.wf]
  | cons y m ih =>
    obtain ⟨k, c⟩ := y
    obtain ⟨h1, h2⟩ := List.pairwise_cons.mp h
    simp only [HostMem.put]
    split
    · rename_i hlt
      refine List.pairwise_cons.mpr ⟨?_, h⟩
      intro x hx
      rcases List.mem_cons.mp hx with rfl | hx
      · exact hlt
      · exact Nat.lt_trans hlt (h1 x hx)
    · split
      · subst_vars
        exact List.pairwise_cons.mpr ⟨h1, h2⟩
      · rename_i hn hne
        refine List.pairwise_cons.mpr ⟨?_, ih h2⟩
        intro x hx
        rcases HostMem.mem_put hx with h' | h'
        · simp only [h']
          omega
        · exact h1 x h'

/-- A transfer keeps the canonical form. -/
theorem HostMem.putAll_wf (bs : List Byte) : ∀ {m : HostMem} (a : Nat), m.wf → (m.putAll a bs).wf := by
  induction bs with
  | nil => intro m a h; exact h
  | cons b bs ih => intro m a h; exact ih (a + 1) (HostMem.put_wf _ _ h)

/-- An address that no byte of a transfer goes to reads as before. -/
theorem HostMem.read_putAll_other (bs : List Byte) : ∀ (m : HostMem) (a a' : Nat),
    (∀ i, i < bs.length → a' ≠ hostAddress (a + i)) → (m.putAll a bs).read a' = m.read a' := by
  induction bs with
  | nil => intro m a a' _; rfl
  | cons b bs ih =>
    intro m a a' h
    have h0 : a' ≠ hostAddress a := by simpa using h 0 (by simp)
    have := ih (m.put (hostAddress a) b) (a + 1) a' (fun i hi => by
      have := h (i + 1) (by simpa using hi)
      rwa [show a + (i + 1) = a + 1 + i by omega] at this)
    rw [HostMem.putAll, this, HostMem.read_put_other _ _ _ _ h0]

/-- A landed transfer keeps the canonical form. -/
theorem land_wf (t : Transfer) (s : State) (h : s.hostMem.wf) : (land t s).hostMem.wf := HostMem.putAll_wf _ _ h

/-- Landed transfers keep the canonical form. -/
theorem landAll_wf (ts : List Transfer) : ∀ (s : State), s.hostMem.wf → (landAll ts s).hostMem.wf := by
  induction ts with
  | nil => intro s h; exact h
  | cons t ts ih => intro s h; exact ih _ (land_wf t s h)

/-- Host memory after reset has the canonical form. -/
theorem reset_hostMem_wf : State.reset.hostMem.wf := by simp [State.reset, HostMem.wf]

end Sys2Proof.Machine
end

