-- ==== Sys2Proof/Laws/Frames.lean ====
section
/-! SUPPORT. What each shared operation leaves unchanged, field by field. -/

namespace Sys2Proof.Machine

/-! `raise` changes the notice unit and nothing else (R180). -/

@[simp] theorem raise_hostMem (b : Raiser) (k : NoticeKind) (s : State) : (raise b k s).hostMem = s.hostMem := rfl
@[simp] theorem raise_regs (b : Raiser) (k : NoticeKind) (s : State) : (raise b k s).regs = s.regs := rfl
@[simp] theorem raise_root (b : Raiser) (k : NoticeKind) (s : State) : (raise b k s).root = s.root := rfl
@[simp] theorem raise_progress (b : Raiser) (k : NoticeKind) (s : State) : (raise b k s).progress = s.progress := rfl
@[simp] theorem raise_engine (b : Raiser) (k : NoticeKind) (s : State) : (raise b k s).engine = s.engine := rfl
@[simp] theorem raise_reader (b : Raiser) (k : NoticeKind) (s : State) : (raise b k s).reader = s.reader := rfl
@[simp] theorem raise_stager (b : Raiser) (k : NoticeKind) (s : State) : (raise b k s).stager = s.stager := rfl
@[simp] theorem raise_table (b : Raiser) (k : NoticeKind) (s : State) : (raise b k s).table = s.table := rfl
@[simp] theorem raise_budget (b : Raiser) (k : NoticeKind) (s : State) : (raise b k s).budget = s.budget := rfl
@[simp] theorem raise_mix (b : Raiser) (k : NoticeKind) (s : State) : (raise b k s).mix = s.mix := rfl
@[simp] theorem raise_tails (b : Raiser) (k : NoticeKind) (s : State) : (raise b k s).tails = s.tails := rfl
@[simp] theorem raise_sup (b : Raiser) (k : NoticeKind) (s : State) : (raise b k s).sup = s.sup := rfl
@[simp] theorem raise_meter (b : Raiser) (k : NoticeKind) (s : State) : (raise b k s).meter = s.meter := rfl
@[simp] theorem raise_cue (b : Raiser) (k : NoticeKind) (s : State) : (raise b k s).cue = s.cue := rfl
@[simp] theorem raise_prot (b : Raiser) (k : NoticeKind) (s : State) : (raise b k s).prot = s.prot := rfl
@[simp] theorem raise_store (b : Raiser) (k : NoticeKind) (s : State) : (raise b k s).store = s.store := rfl
@[simp] theorem raise_due (b : Raiser) (k : NoticeKind) (s : State) : (raise b k s).due = s.due := rfl
@[simp] theorem raise_freeIndex (b : Raiser) (k : NoticeKind) (s : State) : (raise b k s).freeIndex = s.freeIndex := rfl
@[simp] theorem raise_pending (b : Raiser) (k : NoticeKind) (s : State) : (raise b k s).pending = s.pending := rfl

/-! `markFault` changes FAULT and nothing else. -/

@[simp] theorem markFault_hostMem (b : FaultBit) (s : State) : (markFault b s).hostMem = s.hostMem := rfl
@[simp] theorem markFault_root (b : FaultBit) (s : State) : (markFault b s).root = s.root := rfl
@[simp] theorem markFault_progress (b : FaultBit) (s : State) : (markFault b s).progress = s.progress := rfl
@[simp] theorem markFault_engine (b : FaultBit) (s : State) : (markFault b s).engine = s.engine := rfl
@[simp] theorem markFault_reader (b : FaultBit) (s : State) : (markFault b s).reader = s.reader := rfl
@[simp] theorem markFault_stager (b : FaultBit) (s : State) : (markFault b s).stager = s.stager := rfl
@[simp] theorem markFault_table (b : FaultBit) (s : State) : (markFault b s).table = s.table := rfl
@[simp] theorem markFault_budget (b : FaultBit) (s : State) : (markFault b s).budget = s.budget := rfl
@[simp] theorem markFault_mix (b : FaultBit) (s : State) : (markFault b s).mix = s.mix := rfl
@[simp] theorem markFault_tails (b : FaultBit) (s : State) : (markFault b s).tails = s.tails := rfl
@[simp] theorem markFault_sup (b : FaultBit) (s : State) : (markFault b s).sup = s.sup := rfl
@[simp] theorem markFault_meter (b : FaultBit) (s : State) : (markFault b s).meter = s.meter := rfl
@[simp] theorem markFault_cue (b : FaultBit) (s : State) : (markFault b s).cue = s.cue := rfl
@[simp] theorem markFault_notice (b : FaultBit) (s : State) : (markFault b s).notice = s.notice := rfl
@[simp] theorem markFault_prot (b : FaultBit) (s : State) : (markFault b s).prot = s.prot := rfl
@[simp] theorem markFault_store (b : FaultBit) (s : State) : (markFault b s).store = s.store := rfl
@[simp] theorem markFault_due (b : FaultBit) (s : State) : (markFault b s).due = s.due := rfl
@[simp] theorem markFault_freeIndex (b : FaultBit) (s : State) : (markFault b s).freeIndex = s.freeIndex := rfl
@[simp] theorem markFault_pending (b : FaultBit) (s : State) : (markFault b s).pending = s.pending := rfl

/-! `setFault` changes FAULT and the notice unit (R162). -/

@[simp] theorem setFault_hostMem (u : Raiser) (b : FaultBit) (s : State) : (setFault u b s).hostMem = s.hostMem := by unfold setFault; split <;> rfl
@[simp] theorem setFault_root (u : Raiser) (b : FaultBit) (s : State) : (setFault u b s).root = s.root := by unfold setFault; split <;> rfl
@[simp] theorem setFault_progress (u : Raiser) (b : FaultBit) (s : State) : (setFault u b s).progress = s.progress := by unfold setFault; split <;> rfl
@[simp] theorem setFault_engine (u : Raiser) (b : FaultBit) (s : State) : (setFault u b s).engine = s.engine := by unfold setFault; split <;> rfl
@[simp] theorem setFault_reader (u : Raiser) (b : FaultBit) (s : State) : (setFault u b s).reader = s.reader := by unfold setFault; split <;> rfl
@[simp] theorem setFault_stager (u : Raiser) (b : FaultBit) (s : State) : (setFault u b s).stager = s.stager := by unfold setFault; split <;> rfl
@[simp] theorem setFault_table (u : Raiser) (b : FaultBit) (s : State) : (setFault u b s).table = s.table := by unfold setFault; split <;> rfl
@[simp] theorem setFault_budget (u : Raiser) (b : FaultBit) (s : State) : (setFault u b s).budget = s.budget := by unfold setFault; split <;> rfl
@[simp] theorem setFault_mix (u : Raiser) (b : FaultBit) (s : State) : (setFault u b s).mix = s.mix := by unfold setFault; split <;> rfl
@[simp] theorem setFault_tails (u : Raiser) (b : FaultBit) (s : State) : (setFault u b s).tails = s.tails := by unfold setFault; split <;> rfl
@[simp] theorem setFault_sup (u : Raiser) (b : FaultBit) (s : State) : (setFault u b s).sup = s.sup := by unfold setFault; split <;> rfl
@[simp] theorem setFault_meter (u : Raiser) (b : FaultBit) (s : State) : (setFault u b s).meter = s.meter := by unfold setFault; split <;> rfl
@[simp] theorem setFault_cue (u : Raiser) (b : FaultBit) (s : State) : (setFault u b s).cue = s.cue := by unfold setFault; split <;> rfl
@[simp] theorem setFault_prot (u : Raiser) (b : FaultBit) (s : State) : (setFault u b s).prot = s.prot := by unfold setFault; split <;> rfl
@[simp] theorem setFault_store (u : Raiser) (b : FaultBit) (s : State) : (setFault u b s).store = s.store := by unfold setFault; split <;> rfl
@[simp] theorem setFault_due (u : Raiser) (b : FaultBit) (s : State) : (setFault u b s).due = s.due := by unfold setFault; split <;> rfl
@[simp] theorem setFault_freeIndex (u : Raiser) (b : FaultBit) (s : State) : (setFault u b s).freeIndex = s.freeIndex := by unfold setFault; split <;> rfl
@[simp] theorem setFault_pending (u : Raiser) (b : FaultBit) (s : State) : (setFault u b s).pending = s.pending := by unfold setFault; split <;> rfl

/-! What `setFault` makes of FAULT and of the notice unit (R162). -/

/-- The bit is set and every other bit stands. -/
theorem setFault_regs (u : Raiser) (b : FaultBit) (s : State) :
    (setFault u b s).regs = { s.regs with fault := s.regs.fault ||| (1#6 <<< b.num) } := by
  have set_again : ∀ (f : BitVec 6) (c : FaultBit), f.getLsbD c.num = true → f ||| (1#6 <<< c.num) = f := by
    intro f c
    cases c <;> simp only [FaultBit.num] <;> revert f <;> decide
  unfold setFault
  split
  · rename_i h
    rw [set_again _ _ h]
  · rfl

/-- FAULT is raised where the bit was clear. -/
theorem setFault_notice (u : Raiser) (b : FaultBit) (s : State) :
    (setFault u b s).notice = if s.hasFault b then s.notice else (raise u .fault s).notice := by
  unfold setFault
  split <;> rfl

/-! `land` changes host memory and nothing else. -/

@[simp] theorem land_regs (t : Transfer) (s : State) : (land t s).regs = s.regs := rfl
@[simp] theorem land_root (t : Transfer) (s : State) : (land t s).root = s.root := rfl
@[simp] theorem land_progress (t : Transfer) (s : State) : (land t s).progress = s.progress := rfl
@[simp] theorem land_engine (t : Transfer) (s : State) : (land t s).engine = s.engine := rfl
@[simp] theorem land_reader (t : Transfer) (s : State) : (land t s).reader = s.reader := rfl
@[simp] theorem land_stager (t : Transfer) (s : State) : (land t s).stager = s.stager := rfl
@[simp] theorem land_table (t : Transfer) (s : State) : (land t s).table = s.table := rfl
@[simp] theorem land_budget (t : Transfer) (s : State) : (land t s).budget = s.budget := rfl
@[simp] theorem land_mix (t : Transfer) (s : State) : (land t s).mix = s.mix := rfl
@[simp] theorem land_tails (t : Transfer) (s : State) : (land t s).tails = s.tails := rfl
@[simp] theorem land_sup (t : Transfer) (s : State) : (land t s).sup = s.sup := rfl
@[simp] theorem land_meter (t : Transfer) (s : State) : (land t s).meter = s.meter := rfl
@[simp] theorem land_cue (t : Transfer) (s : State) : (land t s).cue = s.cue := rfl
@[simp] theorem land_notice (t : Transfer) (s : State) : (land t s).notice = s.notice := rfl
@[simp] theorem land_prot (t : Transfer) (s : State) : (land t s).prot = s.prot := rfl
@[simp] theorem land_store (t : Transfer) (s : State) : (land t s).store = s.store := rfl
@[simp] theorem land_due (t : Transfer) (s : State) : (land t s).due = s.due := rfl
@[simp] theorem land_freeIndex (t : Transfer) (s : State) : (land t s).freeIndex = s.freeIndex := rfl
@[simp] theorem land_pending (t : Transfer) (s : State) : (land t s).pending = s.pending := rfl

/-! `progressOccasion` changes the progress record's writer and nothing else (R172). -/

@[simp] theorem progressOccasion_hostMem (s : State) : (progressOccasion s).hostMem = s.hostMem := by unfold progressOccasion; split <;> [rfl; (split <;> rfl)]
@[simp] theorem progressOccasion_regs (s : State) : (progressOccasion s).regs = s.regs := by unfold progressOccasion; split <;> [rfl; (split <;> rfl)]
@[simp] theorem progressOccasion_root (s : State) : (progressOccasion s).root = s.root := by unfold progressOccasion; split <;> [rfl; (split <;> rfl)]
@[simp] theorem progressOccasion_engine (s : State) : (progressOccasion s).engine = s.engine := by unfold progressOccasion; split <;> [rfl; (split <;> rfl)]
@[simp] theorem progressOccasion_reader (s : State) : (progressOccasion s).reader = s.reader := by unfold progressOccasion; split <;> [rfl; (split <;> rfl)]
@[simp] theorem progressOccasion_stager (s : State) : (progressOccasion s).stager = s.stager := by unfold progressOccasion; split <;> [rfl; (split <;> rfl)]
@[simp] theorem progressOccasion_table (s : State) : (progressOccasion s).table = s.table := by unfold progressOccasion; split <;> [rfl; (split <;> rfl)]
@[simp] theorem progressOccasion_budget (s : State) : (progressOccasion s).budget = s.budget := by unfold progressOccasion; split <;> [rfl; (split <;> rfl)]
@[simp] theorem progressOccasion_mix (s : State) : (progressOccasion s).mix = s.mix := by unfold progressOccasion; split <;> [rfl; (split <;> rfl)]
@[simp] theorem progressOccasion_tails (s : State) : (progressOccasion s).tails = s.tails := by unfold progressOccasion; split <;> [rfl; (split <;> rfl)]
@[simp] theorem progressOccasion_sup (s : State) : (progressOccasion s).sup = s.sup := by unfold progressOccasion; split <;> [rfl; (split <;> rfl)]
@[simp] theorem progressOccasion_meter (s : State) : (progressOccasion s).meter = s.meter := by unfold progressOccasion; split <;> [rfl; (split <;> rfl)]
@[simp] theorem progressOccasion_cue (s : State) : (progressOccasion s).cue = s.cue := by unfold progressOccasion; split <;> [rfl; (split <;> rfl)]
@[simp] theorem progressOccasion_notice (s : State) : (progressOccasion s).notice = s.notice := by unfold progressOccasion; split <;> [rfl; (split <;> rfl)]
@[simp] theorem progressOccasion_prot (s : State) : (progressOccasion s).prot = s.prot := by unfold progressOccasion; split <;> [rfl; (split <;> rfl)]
@[simp] theorem progressOccasion_store (s : State) : (progressOccasion s).store = s.store := by unfold progressOccasion; split <;> [rfl; (split <;> rfl)]
@[simp] theorem progressOccasion_due (s : State) : (progressOccasion s).due = s.due := by unfold progressOccasion; split <;> [rfl; (split <;> rfl)]
@[simp] theorem progressOccasion_freeIndex (s : State) : (progressOccasion s).freeIndex = s.freeIndex := by unfold progressOccasion; split <;> [rfl; (split <;> rfl)]
@[simp] theorem progressOccasion_pending (s : State) : (progressOccasion s).pending = s.pending := by unfold progressOccasion; split <;> [rfl; (split <;> rfl)]

/-! `setHand` changes the reader and nothing else. -/

@[simp] theorem setHand_hostMem (h : Hand) (s : State) : (setHand h s).hostMem = s.hostMem := rfl
@[simp] theorem setHand_regs (h : Hand) (s : State) : (setHand h s).regs = s.regs := rfl
@[simp] theorem setHand_root (h : Hand) (s : State) : (setHand h s).root = s.root := rfl
@[simp] theorem setHand_progress (h : Hand) (s : State) : (setHand h s).progress = s.progress := rfl
@[simp] theorem setHand_engine (h : Hand) (s : State) : (setHand h s).engine = s.engine := rfl
@[simp] theorem setHand_stager (h : Hand) (s : State) : (setHand h s).stager = s.stager := rfl
@[simp] theorem setHand_table (h : Hand) (s : State) : (setHand h s).table = s.table := rfl
@[simp] theorem setHand_budget (h : Hand) (s : State) : (setHand h s).budget = s.budget := rfl
@[simp] theorem setHand_mix (h : Hand) (s : State) : (setHand h s).mix = s.mix := rfl
@[simp] theorem setHand_tails (h : Hand) (s : State) : (setHand h s).tails = s.tails := rfl
@[simp] theorem setHand_sup (h : Hand) (s : State) : (setHand h s).sup = s.sup := rfl
@[simp] theorem setHand_meter (h : Hand) (s : State) : (setHand h s).meter = s.meter := rfl
@[simp] theorem setHand_cue (h : Hand) (s : State) : (setHand h s).cue = s.cue := rfl
@[simp] theorem setHand_notice (h : Hand) (s : State) : (setHand h s).notice = s.notice := rfl
@[simp] theorem setHand_prot (h : Hand) (s : State) : (setHand h s).prot = s.prot := rfl
@[simp] theorem setHand_store (h : Hand) (s : State) : (setHand h s).store = s.store := rfl
@[simp] theorem setHand_due (h : Hand) (s : State) : (setHand h s).due = s.due := rfl
@[simp] theorem setHand_freeIndex (h : Hand) (s : State) : (setHand h s).freeIndex = s.freeIndex := rfl
@[simp] theorem setHand_pending (h : Hand) (s : State) : (setHand h s).pending = s.pending := rfl

/-! `complete` changes the reader and nothing else. -/

@[simp] theorem complete_hostMem (h : Hand) (c : Completion) (s : State) : (complete h c s).hostMem = s.hostMem := rfl
@[simp] theorem complete_regs (h : Hand) (c : Completion) (s : State) : (complete h c s).regs = s.regs := rfl
@[simp] theorem complete_root (h : Hand) (c : Completion) (s : State) : (complete h c s).root = s.root := rfl
@[simp] theorem complete_progress (h : Hand) (c : Completion) (s : State) : (complete h c s).progress = s.progress := rfl
@[simp] theorem complete_engine (h : Hand) (c : Completion) (s : State) : (complete h c s).engine = s.engine := rfl
@[simp] theorem complete_stager (h : Hand) (c : Completion) (s : State) : (complete h c s).stager = s.stager := rfl
@[simp] theorem complete_table (h : Hand) (c : Completion) (s : State) : (complete h c s).table = s.table := rfl
@[simp] theorem complete_budget (h : Hand) (c : Completion) (s : State) : (complete h c s).budget = s.budget := rfl
@[simp] theorem complete_mix (h : Hand) (c : Completion) (s : State) : (complete h c s).mix = s.mix := rfl
@[simp] theorem complete_tails (h : Hand) (c : Completion) (s : State) : (complete h c s).tails = s.tails := rfl
@[simp] theorem complete_sup (h : Hand) (c : Completion) (s : State) : (complete h c s).sup = s.sup := rfl
@[simp] theorem complete_meter (h : Hand) (c : Completion) (s : State) : (complete h c s).meter = s.meter := rfl
@[simp] theorem complete_cue (h : Hand) (c : Completion) (s : State) : (complete h c s).cue = s.cue := rfl
@[simp] theorem complete_notice (h : Hand) (c : Completion) (s : State) : (complete h c s).notice = s.notice := rfl
@[simp] theorem complete_prot (h : Hand) (c : Completion) (s : State) : (complete h c s).prot = s.prot := rfl
@[simp] theorem complete_store (h : Hand) (c : Completion) (s : State) : (complete h c s).store = s.store := rfl
@[simp] theorem complete_due (h : Hand) (c : Completion) (s : State) : (complete h c s).due = s.due := rfl
@[simp] theorem complete_freeIndex (h : Hand) (c : Completion) (s : State) : (complete h c s).freeIndex = s.freeIndex := rfl
@[simp] theorem complete_pending (h : Hand) (c : Completion) (s : State) : (complete h c s).pending = s.pending := rfl

/-! `passCard` changes the reader and nothing else. -/

@[simp] theorem passCard_hostMem (h : Hand) (s : State) : (passCard h s).hostMem = s.hostMem := rfl
@[simp] theorem passCard_regs (h : Hand) (s : State) : (passCard h s).regs = s.regs := rfl
@[simp] theorem passCard_root (h : Hand) (s : State) : (passCard h s).root = s.root := rfl
@[simp] theorem passCard_progress (h : Hand) (s : State) : (passCard h s).progress = s.progress := rfl
@[simp] theorem passCard_engine (h : Hand) (s : State) : (passCard h s).engine = s.engine := rfl
@[simp] theorem passCard_stager (h : Hand) (s : State) : (passCard h s).stager = s.stager := rfl
@[simp] theorem passCard_table (h : Hand) (s : State) : (passCard h s).table = s.table := rfl
@[simp] theorem passCard_budget (h : Hand) (s : State) : (passCard h s).budget = s.budget := rfl
@[simp] theorem passCard_mix (h : Hand) (s : State) : (passCard h s).mix = s.mix := rfl
@[simp] theorem passCard_tails (h : Hand) (s : State) : (passCard h s).tails = s.tails := rfl
@[simp] theorem passCard_sup (h : Hand) (s : State) : (passCard h s).sup = s.sup := rfl
@[simp] theorem passCard_meter (h : Hand) (s : State) : (passCard h s).meter = s.meter := rfl
@[simp] theorem passCard_cue (h : Hand) (s : State) : (passCard h s).cue = s.cue := rfl
@[simp] theorem passCard_notice (h : Hand) (s : State) : (passCard h s).notice = s.notice := rfl
@[simp] theorem passCard_prot (h : Hand) (s : State) : (passCard h s).prot = s.prot := rfl
@[simp] theorem passCard_store (h : Hand) (s : State) : (passCard h s).store = s.store := rfl
@[simp] theorem passCard_due (h : Hand) (s : State) : (passCard h s).due = s.due := rfl
@[simp] theorem passCard_freeIndex (h : Hand) (s : State) : (passCard h s).freeIndex = s.freeIndex := rfl
@[simp] theorem passCard_pending (h : Hand) (s : State) : (passCard h s).pending = s.pending := rfl

/-! `endLong` changes the reader and nothing else. -/

@[simp] theorem endLong_hostMem (k : LongKind) (c : Completion) (s : State) : (endLong k c s).hostMem = s.hostMem := by unfold endLong; split <;> rfl
@[simp] theorem endLong_regs (k : LongKind) (c : Completion) (s : State) : (endLong k c s).regs = s.regs := by unfold endLong; split <;> rfl
@[simp] theorem endLong_root (k : LongKind) (c : Completion) (s : State) : (endLong k c s).root = s.root := by unfold endLong; split <;> rfl
@[simp] theorem endLong_progress (k : LongKind) (c : Completion) (s : State) : (endLong k c s).progress = s.progress := by unfold endLong; split <;> rfl
@[simp] theorem endLong_engine (k : LongKind) (c : Completion) (s : State) : (endLong k c s).engine = s.engine := by unfold endLong; split <;> rfl
@[simp] theorem endLong_stager (k : LongKind) (c : Completion) (s : State) : (endLong k c s).stager = s.stager := by unfold endLong; split <;> rfl
@[simp] theorem endLong_table (k : LongKind) (c : Completion) (s : State) : (endLong k c s).table = s.table := by unfold endLong; split <;> rfl
@[simp] theorem endLong_budget (k : LongKind) (c : Completion) (s : State) : (endLong k c s).budget = s.budget := by unfold endLong; split <;> rfl
@[simp] theorem endLong_mix (k : LongKind) (c : Completion) (s : State) : (endLong k c s).mix = s.mix := by unfold endLong; split <;> rfl
@[simp] theorem endLong_tails (k : LongKind) (c : Completion) (s : State) : (endLong k c s).tails = s.tails := by unfold endLong; split <;> rfl
@[simp] theorem endLong_sup (k : LongKind) (c : Completion) (s : State) : (endLong k c s).sup = s.sup := by unfold endLong; split <;> rfl
@[simp] theorem endLong_meter (k : LongKind) (c : Completion) (s : State) : (endLong k c s).meter = s.meter := by unfold endLong; split <;> rfl
@[simp] theorem endLong_cue (k : LongKind) (c : Completion) (s : State) : (endLong k c s).cue = s.cue := by unfold endLong; split <;> rfl
@[simp] theorem endLong_notice (k : LongKind) (c : Completion) (s : State) : (endLong k c s).notice = s.notice := by unfold endLong; split <;> rfl
@[simp] theorem endLong_prot (k : LongKind) (c : Completion) (s : State) : (endLong k c s).prot = s.prot := by unfold endLong; split <;> rfl
@[simp] theorem endLong_store (k : LongKind) (c : Completion) (s : State) : (endLong k c s).store = s.store := by unfold endLong; split <;> rfl
@[simp] theorem endLong_due (k : LongKind) (c : Completion) (s : State) : (endLong k c s).due = s.due := by unfold endLong; split <;> rfl
@[simp] theorem endLong_freeIndex (k : LongKind) (c : Completion) (s : State) : (endLong k c s).freeIndex = s.freeIndex := by unfold endLong; split <;> rfl
@[simp] theorem endLong_pending (k : LongKind) (c : Completion) (s : State) : (endLong k c s).pending = s.pending := by unfold endLong; split <;> rfl

/-! `finishStopping` changes the engine and nothing else (R87). -/

@[simp] theorem finishStopping_hostMem (s : State) : (finishStopping s).hostMem = s.hostMem := by unfold finishStopping endStopping; split <;> [(split <;> rfl); rfl]
@[simp] theorem finishStopping_regs (s : State) : (finishStopping s).regs = s.regs := by unfold finishStopping endStopping; split <;> [(split <;> rfl); rfl]
@[simp] theorem finishStopping_root (s : State) : (finishStopping s).root = s.root := by unfold finishStopping endStopping; split <;> [(split <;> rfl); rfl]
@[simp] theorem finishStopping_progress (s : State) : (finishStopping s).progress = s.progress := by unfold finishStopping endStopping; split <;> [(split <;> rfl); rfl]
@[simp] theorem finishStopping_reader (s : State) : (finishStopping s).reader = s.reader := by unfold finishStopping endStopping; split <;> [(split <;> rfl); rfl]
@[simp] theorem finishStopping_stager (s : State) : (finishStopping s).stager = s.stager := by unfold finishStopping endStopping; split <;> [(split <;> rfl); rfl]
@[simp] theorem finishStopping_table (s : State) : (finishStopping s).table = s.table := by unfold finishStopping endStopping; split <;> [(split <;> rfl); rfl]
@[simp] theorem finishStopping_budget (s : State) : (finishStopping s).budget = s.budget := by unfold finishStopping endStopping; split <;> [(split <;> rfl); rfl]
@[simp] theorem finishStopping_mix (s : State) : (finishStopping s).mix = s.mix := by unfold finishStopping endStopping; split <;> [(split <;> rfl); rfl]
@[simp] theorem finishStopping_tails (s : State) : (finishStopping s).tails = s.tails := by unfold finishStopping endStopping; split <;> [(split <;> rfl); rfl]
@[simp] theorem finishStopping_sup (s : State) : (finishStopping s).sup = s.sup := by unfold finishStopping endStopping; split <;> [(split <;> rfl); rfl]
@[simp] theorem finishStopping_meter (s : State) : (finishStopping s).meter = s.meter := by unfold finishStopping endStopping; split <;> [(split <;> rfl); rfl]
@[simp] theorem finishStopping_cue (s : State) : (finishStopping s).cue = s.cue := by unfold finishStopping endStopping; split <;> [(split <;> rfl); rfl]
@[simp] theorem finishStopping_notice (s : State) : (finishStopping s).notice = s.notice := by unfold finishStopping endStopping; split <;> [(split <;> rfl); rfl]
@[simp] theorem finishStopping_prot (s : State) : (finishStopping s).prot = s.prot := by unfold finishStopping endStopping; split <;> [(split <;> rfl); rfl]
@[simp] theorem finishStopping_store (s : State) : (finishStopping s).store = s.store := by unfold finishStopping endStopping; split <;> [(split <;> rfl); rfl]
@[simp] theorem finishStopping_due (s : State) : (finishStopping s).due = s.due := by unfold finishStopping endStopping; split <;> [(split <;> rfl); rfl]
@[simp] theorem finishStopping_freeIndex (s : State) : (finishStopping s).freeIndex = s.freeIndex := by unfold finishStopping endStopping; split <;> [(split <;> rfl); rfl]
@[simp] theorem finishStopping_pending (s : State) : (finishStopping s).pending = s.pending := by unfold finishStopping endStopping; split <;> [(split <;> rfl); rfl]

/-! `silenceEmitters` changes the supervisor and nothing else (R81). -/

@[simp] theorem silenceEmitters_hostMem (s : State) : (silenceEmitters s).hostMem = s.hostMem := rfl
@[simp] theorem silenceEmitters_regs (s : State) : (silenceEmitters s).regs = s.regs := rfl
@[simp] theorem silenceEmitters_root (s : State) : (silenceEmitters s).root = s.root := rfl
@[simp] theorem silenceEmitters_progress (s : State) : (silenceEmitters s).progress = s.progress := rfl
@[simp] theorem silenceEmitters_engine (s : State) : (silenceEmitters s).engine = s.engine := rfl
@[simp] theorem silenceEmitters_reader (s : State) : (silenceEmitters s).reader = s.reader := rfl
@[simp] theorem silenceEmitters_stager (s : State) : (silenceEmitters s).stager = s.stager := rfl
@[simp] theorem silenceEmitters_table (s : State) : (silenceEmitters s).table = s.table := rfl
@[simp] theorem silenceEmitters_budget (s : State) : (silenceEmitters s).budget = s.budget := rfl
@[simp] theorem silenceEmitters_mix (s : State) : (silenceEmitters s).mix = s.mix := rfl
@[simp] theorem silenceEmitters_tails (s : State) : (silenceEmitters s).tails = s.tails := rfl
@[simp] theorem silenceEmitters_meter (s : State) : (silenceEmitters s).meter = s.meter := rfl
@[simp] theorem silenceEmitters_cue (s : State) : (silenceEmitters s).cue = s.cue := rfl
@[simp] theorem silenceEmitters_notice (s : State) : (silenceEmitters s).notice = s.notice := rfl
@[simp] theorem silenceEmitters_prot (s : State) : (silenceEmitters s).prot = s.prot := rfl
@[simp] theorem silenceEmitters_store (s : State) : (silenceEmitters s).store = s.store := rfl
@[simp] theorem silenceEmitters_due (s : State) : (silenceEmitters s).due = s.due := rfl
@[simp] theorem silenceEmitters_freeIndex (s : State) : (silenceEmitters s).freeIndex = s.freeIndex := rfl
@[simp] theorem silenceEmitters_pending (s : State) : (silenceEmitters s).pending = s.pending := rfl

/-! `openBlock` changes the mix engine and nothing else (R21). -/

@[simp] theorem openBlock_hostMem (s : State) : (openBlock s).hostMem = s.hostMem := rfl
@[simp] theorem openBlock_regs (s : State) : (openBlock s).regs = s.regs := rfl
@[simp] theorem openBlock_root (s : State) : (openBlock s).root = s.root := rfl
@[simp] theorem openBlock_progress (s : State) : (openBlock s).progress = s.progress := rfl
@[simp] theorem openBlock_engine (s : State) : (openBlock s).engine = s.engine := rfl
@[simp] theorem openBlock_reader (s : State) : (openBlock s).reader = s.reader := rfl
@[simp] theorem openBlock_stager (s : State) : (openBlock s).stager = s.stager := rfl
@[simp] theorem openBlock_table (s : State) : (openBlock s).table = s.table := rfl
@[simp] theorem openBlock_budget (s : State) : (openBlock s).budget = s.budget := rfl
@[simp] theorem openBlock_tails (s : State) : (openBlock s).tails = s.tails := rfl
@[simp] theorem openBlock_sup (s : State) : (openBlock s).sup = s.sup := rfl
@[simp] theorem openBlock_meter (s : State) : (openBlock s).meter = s.meter := rfl
@[simp] theorem openBlock_cue (s : State) : (openBlock s).cue = s.cue := rfl
@[simp] theorem openBlock_notice (s : State) : (openBlock s).notice = s.notice := rfl
@[simp] theorem openBlock_prot (s : State) : (openBlock s).prot = s.prot := rfl
@[simp] theorem openBlock_store (s : State) : (openBlock s).store = s.store := rfl
@[simp] theorem openBlock_due (s : State) : (openBlock s).due = s.due := rfl
@[simp] theorem openBlock_freeIndex (s : State) : (openBlock s).freeIndex = s.freeIndex := rfl
@[simp] theorem openBlock_pending (s : State) : (openBlock s).pending = s.pending := rfl

/-! `beginSweep` changes the reader and nothing else (R165). -/

@[simp] theorem beginSweep_hostMem (s : State) : (beginSweep s).hostMem = s.hostMem := rfl
@[simp] theorem beginSweep_regs (s : State) : (beginSweep s).regs = s.regs := rfl
@[simp] theorem beginSweep_root (s : State) : (beginSweep s).root = s.root := rfl
@[simp] theorem beginSweep_progress (s : State) : (beginSweep s).progress = s.progress := rfl
@[simp] theorem beginSweep_engine (s : State) : (beginSweep s).engine = s.engine := rfl
@[simp] theorem beginSweep_stager (s : State) : (beginSweep s).stager = s.stager := rfl
@[simp] theorem beginSweep_table (s : State) : (beginSweep s).table = s.table := rfl
@[simp] theorem beginSweep_budget (s : State) : (beginSweep s).budget = s.budget := rfl
@[simp] theorem beginSweep_mix (s : State) : (beginSweep s).mix = s.mix := rfl
@[simp] theorem beginSweep_tails (s : State) : (beginSweep s).tails = s.tails := rfl
@[simp] theorem beginSweep_sup (s : State) : (beginSweep s).sup = s.sup := rfl
@[simp] theorem beginSweep_meter (s : State) : (beginSweep s).meter = s.meter := rfl
@[simp] theorem beginSweep_cue (s : State) : (beginSweep s).cue = s.cue := rfl
@[simp] theorem beginSweep_notice (s : State) : (beginSweep s).notice = s.notice := rfl
@[simp] theorem beginSweep_prot (s : State) : (beginSweep s).prot = s.prot := rfl
@[simp] theorem beginSweep_store (s : State) : (beginSweep s).store = s.store := rfl
@[simp] theorem beginSweep_due (s : State) : (beginSweep s).due = s.due := rfl
@[simp] theorem beginSweep_freeIndex (s : State) : (beginSweep s).freeIndex = s.freeIndex := rfl
@[simp] theorem beginSweep_pending (s : State) : (beginSweep s).pending = s.pending := rfl

/-! `passSlot` changes the reader and nothing else. -/

@[simp] theorem passSlot_hostMem (s : State) : (passSlot s).hostMem = s.hostMem := rfl
@[simp] theorem passSlot_regs (s : State) : (passSlot s).regs = s.regs := rfl
@[simp] theorem passSlot_root (s : State) : (passSlot s).root = s.root := rfl
@[simp] theorem passSlot_progress (s : State) : (passSlot s).progress = s.progress := rfl
@[simp] theorem passSlot_engine (s : State) : (passSlot s).engine = s.engine := rfl
@[simp] theorem passSlot_stager (s : State) : (passSlot s).stager = s.stager := rfl
@[simp] theorem passSlot_table (s : State) : (passSlot s).table = s.table := rfl
@[simp] theorem passSlot_budget (s : State) : (passSlot s).budget = s.budget := rfl
@[simp] theorem passSlot_mix (s : State) : (passSlot s).mix = s.mix := rfl
@[simp] theorem passSlot_tails (s : State) : (passSlot s).tails = s.tails := rfl
@[simp] theorem passSlot_sup (s : State) : (passSlot s).sup = s.sup := rfl
@[simp] theorem passSlot_meter (s : State) : (passSlot s).meter = s.meter := rfl
@[simp] theorem passSlot_cue (s : State) : (passSlot s).cue = s.cue := rfl
@[simp] theorem passSlot_notice (s : State) : (passSlot s).notice = s.notice := rfl
@[simp] theorem passSlot_prot (s : State) : (passSlot s).prot = s.prot := rfl
@[simp] theorem passSlot_store (s : State) : (passSlot s).store = s.store := rfl
@[simp] theorem passSlot_due (s : State) : (passSlot s).due = s.due := rfl
@[simp] theorem passSlot_freeIndex (s : State) : (passSlot s).freeIndex = s.freeIndex := rfl
@[simp] theorem passSlot_pending (s : State) : (passSlot s).pending = s.pending := rfl

/-! `readerOff` changes the reader and the progress record's writer (R171). -/

@[simp] theorem readerOff_hostMem (s : State) : (readerOff s).hostMem = s.hostMem := by unfold readerOff; split <;> simp
@[simp] theorem readerOff_regs (s : State) : (readerOff s).regs = s.regs := by unfold readerOff; split <;> simp
@[simp] theorem readerOff_root (s : State) : (readerOff s).root = s.root := by unfold readerOff; split <;> simp
@[simp] theorem readerOff_engine (s : State) : (readerOff s).engine = s.engine := by unfold readerOff; split <;> simp
@[simp] theorem readerOff_stager (s : State) : (readerOff s).stager = s.stager := by unfold readerOff; split <;> simp
@[simp] theorem readerOff_table (s : State) : (readerOff s).table = s.table := by unfold readerOff; split <;> simp
@[simp] theorem readerOff_budget (s : State) : (readerOff s).budget = s.budget := by unfold readerOff; split <;> simp
@[simp] theorem readerOff_mix (s : State) : (readerOff s).mix = s.mix := by unfold readerOff; split <;> simp
@[simp] theorem readerOff_tails (s : State) : (readerOff s).tails = s.tails := by unfold readerOff; split <;> simp
@[simp] theorem readerOff_sup (s : State) : (readerOff s).sup = s.sup := by unfold readerOff; split <;> simp
@[simp] theorem readerOff_meter (s : State) : (readerOff s).meter = s.meter := by unfold readerOff; split <;> simp
@[simp] theorem readerOff_cue (s : State) : (readerOff s).cue = s.cue := by unfold readerOff; split <;> simp
@[simp] theorem readerOff_notice (s : State) : (readerOff s).notice = s.notice := by unfold readerOff; split <;> simp
@[simp] theorem readerOff_prot (s : State) : (readerOff s).prot = s.prot := by unfold readerOff; split <;> simp
@[simp] theorem readerOff_store (s : State) : (readerOff s).store = s.store := by unfold readerOff; split <;> simp
@[simp] theorem readerOff_due (s : State) : (readerOff s).due = s.due := by unfold readerOff; split <;> simp
@[simp] theorem readerOff_freeIndex (s : State) : (readerOff s).freeIndex = s.freeIndex := by unfold readerOff; split <;> simp
@[simp] theorem readerOff_pending (s : State) : (readerOff s).pending = s.pending := by unfold readerOff; split <;> simp

/-! `afterCard` changes the reader and the progress record's writer. -/

@[simp] theorem afterCard_hostMem (s : State) : (afterCard s).hostMem = s.hostMem := by unfold afterCard; split <;> simp
@[simp] theorem afterCard_regs (s : State) : (afterCard s).regs = s.regs := by unfold afterCard; split <;> simp
@[simp] theorem afterCard_root (s : State) : (afterCard s).root = s.root := by unfold afterCard; split <;> simp
@[simp] theorem afterCard_engine (s : State) : (afterCard s).engine = s.engine := by unfold afterCard; split <;> simp
@[simp] theorem afterCard_stager (s : State) : (afterCard s).stager = s.stager := by unfold afterCard; split <;> simp
@[simp] theorem afterCard_table (s : State) : (afterCard s).table = s.table := by unfold afterCard; split <;> simp
@[simp] theorem afterCard_budget (s : State) : (afterCard s).budget = s.budget := by unfold afterCard; split <;> simp
@[simp] theorem afterCard_mix (s : State) : (afterCard s).mix = s.mix := by unfold afterCard; split <;> simp
@[simp] theorem afterCard_tails (s : State) : (afterCard s).tails = s.tails := by unfold afterCard; split <;> simp
@[simp] theorem afterCard_sup (s : State) : (afterCard s).sup = s.sup := by unfold afterCard; split <;> simp
@[simp] theorem afterCard_meter (s : State) : (afterCard s).meter = s.meter := by unfold afterCard; split <;> simp
@[simp] theorem afterCard_cue (s : State) : (afterCard s).cue = s.cue := by unfold afterCard; split <;> simp
@[simp] theorem afterCard_notice (s : State) : (afterCard s).notice = s.notice := by unfold afterCard; split <;> simp
@[simp] theorem afterCard_prot (s : State) : (afterCard s).prot = s.prot := by unfold afterCard; split <;> simp
@[simp] theorem afterCard_store (s : State) : (afterCard s).store = s.store := by unfold afterCard; split <;> simp
@[simp] theorem afterCard_due (s : State) : (afterCard s).due = s.due := by unfold afterCard; split <;> simp
@[simp] theorem afterCard_freeIndex (s : State) : (afterCard s).freeIndex = s.freeIndex := by unfold afterCard; split <;> simp
@[simp] theorem afterCard_pending (s : State) : (afterCard s).pending = s.pending := by unfold afterCard; split <;> simp

/-! `countFinished` changes the reader and the notice unit. -/

@[simp] theorem countFinished_hostMem (b : Raiser) (n : Bool) (s : State) : (countFinished b n s).hostMem = s.hostMem := by unfold countFinished; split <;> rfl
@[simp] theorem countFinished_regs (b : Raiser) (n : Bool) (s : State) : (countFinished b n s).regs = s.regs := by unfold countFinished; split <;> rfl
@[simp] theorem countFinished_root (b : Raiser) (n : Bool) (s : State) : (countFinished b n s).root = s.root := by unfold countFinished; split <;> rfl
@[simp] theorem countFinished_progress (b : Raiser) (n : Bool) (s : State) : (countFinished b n s).progress = s.progress := by unfold countFinished; split <;> rfl
@[simp] theorem countFinished_engine (b : Raiser) (n : Bool) (s : State) : (countFinished b n s).engine = s.engine := by unfold countFinished; split <;> rfl
@[simp] theorem countFinished_stager (b : Raiser) (n : Bool) (s : State) : (countFinished b n s).stager = s.stager := by unfold countFinished; split <;> rfl
@[simp] theorem countFinished_table (b : Raiser) (n : Bool) (s : State) : (countFinished b n s).table = s.table := by unfold countFinished; split <;> rfl
@[simp] theorem countFinished_budget (b : Raiser) (n : Bool) (s : State) : (countFinished b n s).budget = s.budget := by unfold countFinished; split <;> rfl
@[simp] theorem countFinished_mix (b : Raiser) (n : Bool) (s : State) : (countFinished b n s).mix = s.mix := by unfold countFinished; split <;> rfl
@[simp] theorem countFinished_tails (b : Raiser) (n : Bool) (s : State) : (countFinished b n s).tails = s.tails := by unfold countFinished; split <;> rfl
@[simp] theorem countFinished_sup (b : Raiser) (n : Bool) (s : State) : (countFinished b n s).sup = s.sup := by unfold countFinished; split <;> rfl
@[simp] theorem countFinished_meter (b : Raiser) (n : Bool) (s : State) : (countFinished b n s).meter = s.meter := by unfold countFinished; split <;> rfl
@[simp] theorem countFinished_cue (b : Raiser) (n : Bool) (s : State) : (countFinished b n s).cue = s.cue := by unfold countFinished; split <;> rfl
@[simp] theorem countFinished_prot (b : Raiser) (n : Bool) (s : State) : (countFinished b n s).prot = s.prot := by unfold countFinished; split <;> rfl
@[simp] theorem countFinished_store (b : Raiser) (n : Bool) (s : State) : (countFinished b n s).store = s.store := by unfold countFinished; split <;> rfl
@[simp] theorem countFinished_due (b : Raiser) (n : Bool) (s : State) : (countFinished b n s).due = s.due := by unfold countFinished; split <;> rfl
@[simp] theorem countFinished_freeIndex (b : Raiser) (n : Bool) (s : State) : (countFinished b n s).freeIndex = s.freeIndex := by unfold countFinished; split <;> rfl
@[simp] theorem countFinished_pending (b : Raiser) (n : Bool) (s : State) : (countFinished b n s).pending = s.pending := by unfold countFinished; split <;> rfl

/-! `haltReader` changes the reader, FAULT, the notice unit and the progress record's writer (R170). -/

@[simp] theorem haltReader_hostMem (s : State) : (haltReader s).hostMem = s.hostMem := by simp only [haltReader]; split <;> simp
@[simp] theorem haltReader_root (s : State) : (haltReader s).root = s.root := by simp only [haltReader]; split <;> simp
@[simp] theorem haltReader_engine (s : State) : (haltReader s).engine = s.engine := by simp only [haltReader]; split <;> simp
@[simp] theorem haltReader_stager (s : State) : (haltReader s).stager = s.stager := by simp only [haltReader]; split <;> simp
@[simp] theorem haltReader_table (s : State) : (haltReader s).table = s.table := by simp only [haltReader]; split <;> simp
@[simp] theorem haltReader_budget (s : State) : (haltReader s).budget = s.budget := by simp only [haltReader]; split <;> simp
@[simp] theorem haltReader_mix (s : State) : (haltReader s).mix = s.mix := by simp only [haltReader]; split <;> simp
@[simp] theorem haltReader_tails (s : State) : (haltReader s).tails = s.tails := by simp only [haltReader]; split <;> simp
@[simp] theorem haltReader_sup (s : State) : (haltReader s).sup = s.sup := by simp only [haltReader]; split <;> simp
@[simp] theorem haltReader_meter (s : State) : (haltReader s).meter = s.meter := by simp only [haltReader]; split <;> simp
@[simp] theorem haltReader_cue (s : State) : (haltReader s).cue = s.cue := by simp only [haltReader]; split <;> simp
@[simp] theorem haltReader_prot (s : State) : (haltReader s).prot = s.prot := by simp only [haltReader]; split <;> simp
@[simp] theorem haltReader_store (s : State) : (haltReader s).store = s.store := by simp only [haltReader]; split <;> simp
@[simp] theorem haltReader_due (s : State) : (haltReader s).due = s.due := by simp only [haltReader]; split <;> simp
@[simp] theorem haltReader_freeIndex (s : State) : (haltReader s).freeIndex = s.freeIndex := by simp only [haltReader]; split <;> simp
@[simp] theorem haltReader_pending (s : State) : (haltReader s).pending = s.pending := by simp only [haltReader]; split <;> simp

/-! `keepLong` changes the reader and the progress record's writer (R168). -/

@[simp] theorem keepLong_hostMem (k : LongKind) (h : Hand) (s : State) : (keepLong k h s).hostMem = s.hostMem := by simp [keepLong]
@[simp] theorem keepLong_regs (k : LongKind) (h : Hand) (s : State) : (keepLong k h s).regs = s.regs := by simp [keepLong]
@[simp] theorem keepLong_root (k : LongKind) (h : Hand) (s : State) : (keepLong k h s).root = s.root := by simp [keepLong]
@[simp] theorem keepLong_engine (k : LongKind) (h : Hand) (s : State) : (keepLong k h s).engine = s.engine := by simp [keepLong]
@[simp] theorem keepLong_stager (k : LongKind) (h : Hand) (s : State) : (keepLong k h s).stager = s.stager := by simp [keepLong]
@[simp] theorem keepLong_table (k : LongKind) (h : Hand) (s : State) : (keepLong k h s).table = s.table := by simp [keepLong]
@[simp] theorem keepLong_budget (k : LongKind) (h : Hand) (s : State) : (keepLong k h s).budget = s.budget := by simp [keepLong]
@[simp] theorem keepLong_mix (k : LongKind) (h : Hand) (s : State) : (keepLong k h s).mix = s.mix := by simp [keepLong]
@[simp] theorem keepLong_tails (k : LongKind) (h : Hand) (s : State) : (keepLong k h s).tails = s.tails := by simp [keepLong]
@[simp] theorem keepLong_sup (k : LongKind) (h : Hand) (s : State) : (keepLong k h s).sup = s.sup := by simp [keepLong]
@[simp] theorem keepLong_meter (k : LongKind) (h : Hand) (s : State) : (keepLong k h s).meter = s.meter := by simp [keepLong]
@[simp] theorem keepLong_cue (k : LongKind) (h : Hand) (s : State) : (keepLong k h s).cue = s.cue := by simp [keepLong]
@[simp] theorem keepLong_notice (k : LongKind) (h : Hand) (s : State) : (keepLong k h s).notice = s.notice := by simp [keepLong]
@[simp] theorem keepLong_prot (k : LongKind) (h : Hand) (s : State) : (keepLong k h s).prot = s.prot := by simp [keepLong]
@[simp] theorem keepLong_store (k : LongKind) (h : Hand) (s : State) : (keepLong k h s).store = s.store := by simp [keepLong]
@[simp] theorem keepLong_due (k : LongKind) (h : Hand) (s : State) : (keepLong k h s).due = s.due := by simp [keepLong]
@[simp] theorem keepLong_freeIndex (k : LongKind) (h : Hand) (s : State) : (keepLong k h s).freeIndex = s.freeIndex := by simp [keepLong]
@[simp] theorem keepLong_pending (k : LongKind) (h : Hand) (s : State) : (keepLong k h s).pending = s.pending := by simp [keepLong]

/-! `landAll` changes host memory and nothing else. -/

@[simp] theorem landAll_regs (ts : List Transfer) : ∀ s : State, (landAll ts s).regs = s.regs := by
  induction ts with
  | nil => intro s; rfl
  | cons t ts ih => intro s; exact (ih _).trans (land_regs t s)
@[simp] theorem landAll_root (ts : List Transfer) : ∀ s : State, (landAll ts s).root = s.root := by
  induction ts with
  | nil => intro s; rfl
  | cons t ts ih => intro s; exact (ih _).trans (land_root t s)
@[simp] theorem landAll_progress (ts : List Transfer) : ∀ s : State, (landAll ts s).progress = s.progress := by
  induction ts with
  | nil => intro s; rfl
  | cons t ts ih => intro s; exact (ih _).trans (land_progress t s)
@[simp] theorem landAll_engine (ts : List Transfer) : ∀ s : State, (landAll ts s).engine = s.engine := by
  induction ts with
  | nil => intro s; rfl
  | cons t ts ih => intro s; exact (ih _).trans (land_engine t s)
@[simp] theorem landAll_reader (ts : List Transfer) : ∀ s : State, (landAll ts s).reader = s.reader := by
  induction ts with
  | nil => intro s; rfl
  | cons t ts ih => intro s; exact (ih _).trans (land_reader t s)
@[simp] theorem landAll_stager (ts : List Transfer) : ∀ s : State, (landAll ts s).stager = s.stager := by
  induction ts with
  | nil => intro s; rfl
  | cons t ts ih => intro s; exact (ih _).trans (land_stager t s)
@[simp] theorem landAll_table (ts : List Transfer) : ∀ s : State, (landAll ts s).table = s.table := by
  induction ts with
  | nil => intro s; rfl
  | cons t ts ih => intro s; exact (ih _).trans (land_table t s)
@[simp] theorem landAll_budget (ts : List Transfer) : ∀ s : State, (landAll ts s).budget = s.budget := by
  induction ts with
  | nil => intro s; rfl
  | cons t ts ih => intro s; exact (ih _).trans (land_budget t s)
@[simp] theorem landAll_mix (ts : List Transfer) : ∀ s : State, (landAll ts s).mix = s.mix := by
  induction ts with
  | nil => intro s; rfl
  | cons t ts ih => intro s; exact (ih _).trans (land_mix t s)
@[simp] theorem landAll_tails (ts : List Transfer) : ∀ s : State, (landAll ts s).tails = s.tails := by
  induction ts with
  | nil => intro s; rfl
  | cons t ts ih => intro s; exact (ih _).trans (land_tails t s)
@[simp] theorem landAll_sup (ts : List Transfer) : ∀ s : State, (landAll ts s).sup = s.sup := by
  induction ts with
  | nil => intro s; rfl
  | cons t ts ih => intro s; exact (ih _).trans (land_sup t s)
@[simp] theorem landAll_meter (ts : List Transfer) : ∀ s : State, (landAll ts s).meter = s.meter := by
  induction ts with
  | nil => intro s; rfl
  | cons t ts ih => intro s; exact (ih _).trans (land_meter t s)
@[simp] theorem landAll_cue (ts : List Transfer) : ∀ s : State, (landAll ts s).cue = s.cue := by
  induction ts with
  | nil => intro s; rfl
  | cons t ts ih => intro s; exact (ih _).trans (land_cue t s)
@[simp] theorem landAll_notice (ts : List Transfer) : ∀ s : State, (landAll ts s).notice = s.notice := by
  induction ts with
  | nil => intro s; rfl
  | cons t ts ih => intro s; exact (ih _).trans (land_notice t s)
@[simp] theorem landAll_prot (ts : List Transfer) : ∀ s : State, (landAll ts s).prot = s.prot := by
  induction ts with
  | nil => intro s; rfl
  | cons t ts ih => intro s; exact (ih _).trans (land_prot t s)
@[simp] theorem landAll_store (ts : List Transfer) : ∀ s : State, (landAll ts s).store = s.store := by
  induction ts with
  | nil => intro s; rfl
  | cons t ts ih => intro s; exact (ih _).trans (land_store t s)
@[simp] theorem landAll_due (ts : List Transfer) : ∀ s : State, (landAll ts s).due = s.due := by
  induction ts with
  | nil => intro s; rfl
  | cons t ts ih => intro s; exact (ih _).trans (land_due t s)
@[simp] theorem landAll_freeIndex (ts : List Transfer) : ∀ s : State, (landAll ts s).freeIndex = s.freeIndex := by
  induction ts with
  | nil => intro s; rfl
  | cons t ts ih => intro s; exact (ih _).trans (land_freeIndex t s)
@[simp] theorem landAll_pending (ts : List Transfer) : ∀ s : State, (landAll ts s).pending = s.pending := by
  induction ts with
  | nil => intro s; rfl
  | cons t ts ih => intro s; exact (ih _).trans (land_pending t s)

end Sys2Proof.Machine
end

