-- ==== Sys2Proof/Laws/Due.lean ====
section
/-! SUPPORT. The due ends and `settle`: what they leave unchanged, and that a settled state is its own settling. -/

namespace Sys2Proof.Machine

/-! ### The meter interval -/

@[simp] theorem askInterval_hostMem (s : State) : (askInterval s).hostMem = s.hostMem := by
  unfold askInterval; split <;> simp [takeSnapshot]
@[simp] theorem askInterval_regs (s : State) : (askInterval s).regs = s.regs := by
  unfold askInterval; split <;> simp [takeSnapshot]
@[simp] theorem askInterval_root (s : State) : (askInterval s).root = s.root := by
  unfold askInterval; split <;> simp [takeSnapshot]
@[simp] theorem askInterval_progress (s : State) : (askInterval s).progress = s.progress := by
  unfold askInterval; split <;> simp [takeSnapshot]
@[simp] theorem askInterval_engine (s : State) : (askInterval s).engine = s.engine := by
  unfold askInterval; split <;> simp [takeSnapshot]
@[simp] theorem askInterval_reader (s : State) : (askInterval s).reader = s.reader := by
  unfold askInterval; split <;> simp [takeSnapshot]
@[simp] theorem askInterval_stager (s : State) : (askInterval s).stager = s.stager := by
  unfold askInterval; split <;> simp [takeSnapshot]
@[simp] theorem askInterval_table (s : State) : (askInterval s).table = s.table := by
  unfold askInterval; split <;> simp [takeSnapshot]
@[simp] theorem askInterval_budget (s : State) : (askInterval s).budget = s.budget := by
  unfold askInterval; split <;> simp [takeSnapshot]
@[simp] theorem askInterval_mix (s : State) : (askInterval s).mix = s.mix := by
  unfold askInterval; split <;> simp [takeSnapshot]
@[simp] theorem askInterval_tails (s : State) : (askInterval s).tails = s.tails := by
  unfold askInterval; split <;> simp [takeSnapshot]
@[simp] theorem askInterval_sup (s : State) : (askInterval s).sup = s.sup := by
  unfold askInterval; split <;> simp [takeSnapshot]
@[simp] theorem askInterval_cue (s : State) : (askInterval s).cue = s.cue := by
  unfold askInterval; split <;> simp [takeSnapshot]
@[simp] theorem askInterval_notice (s : State) : (askInterval s).notice = s.notice := by
  unfold askInterval; split <;> simp [takeSnapshot]
@[simp] theorem askInterval_prot (s : State) : (askInterval s).prot = s.prot := by
  unfold askInterval; split <;> simp [takeSnapshot]
@[simp] theorem askInterval_store (s : State) : (askInterval s).store = s.store := by
  unfold askInterval; split <;> simp [takeSnapshot]
@[simp] theorem askInterval_due (s : State) : (askInterval s).due = s.due := by
  unfold askInterval; split <;> simp [takeSnapshot]
@[simp] theorem askInterval_freeIndex (s : State) : (askInterval s).freeIndex = s.freeIndex := by
  unfold askInterval; split <;> simp [takeSnapshot]
@[simp] theorem askInterval_pending (s : State) : (askInterval s).pending = s.pending := by
  unfold askInterval; split <;> simp [takeSnapshot]

@[simp] theorem meterExpiry_hostMem (s : State) : (meterExpiry s).hostMem = s.hostMem := by simp [meterExpiry]
@[simp] theorem meterExpiry_regs (s : State) : (meterExpiry s).regs = s.regs := by simp [meterExpiry]
@[simp] theorem meterExpiry_root (s : State) : (meterExpiry s).root = s.root := by simp [meterExpiry]
@[simp] theorem meterExpiry_progress (s : State) : (meterExpiry s).progress = s.progress := by simp [meterExpiry]
@[simp] theorem meterExpiry_engine (s : State) : (meterExpiry s).engine = s.engine := by simp [meterExpiry]
@[simp] theorem meterExpiry_reader (s : State) : (meterExpiry s).reader = s.reader := by simp [meterExpiry]
@[simp] theorem meterExpiry_stager (s : State) : (meterExpiry s).stager = s.stager := by simp [meterExpiry]
@[simp] theorem meterExpiry_table (s : State) : (meterExpiry s).table = s.table := by simp [meterExpiry]
@[simp] theorem meterExpiry_budget (s : State) : (meterExpiry s).budget = s.budget := by simp [meterExpiry]
@[simp] theorem meterExpiry_mix (s : State) : (meterExpiry s).mix = s.mix := by simp [meterExpiry]
@[simp] theorem meterExpiry_tails (s : State) : (meterExpiry s).tails = s.tails := by simp [meterExpiry]
@[simp] theorem meterExpiry_sup (s : State) : (meterExpiry s).sup = s.sup := by simp [meterExpiry]
@[simp] theorem meterExpiry_cue (s : State) : (meterExpiry s).cue = s.cue := by simp [meterExpiry]
@[simp] theorem meterExpiry_notice (s : State) : (meterExpiry s).notice = s.notice := by simp [meterExpiry]
@[simp] theorem meterExpiry_prot (s : State) : (meterExpiry s).prot = s.prot := by simp [meterExpiry]
@[simp] theorem meterExpiry_store (s : State) : (meterExpiry s).store = s.store := by simp [meterExpiry]
@[simp] theorem meterExpiry_due (s : State) : (meterExpiry s).due = s.due := by simp [meterExpiry]
@[simp] theorem meterExpiry_freeIndex (s : State) : (meterExpiry s).freeIndex = s.freeIndex := by simp [meterExpiry]
@[simp] theorem meterExpiry_pending (s : State) : (meterExpiry s).pending = s.pending := by simp [meterExpiry]

/-! ### Due ends -/

@[simp] theorem dueEffect_hostMem (d : Due) (s : State) : (dueEffect d s).hostMem = s.hostMem := by
  cases d <;> simp [dueEffect, fadeEnds, silenceEnds]
@[simp] theorem dueEffect_regs (d : Due) (s : State) : (dueEffect d s).regs = s.regs := by
  cases d <;> simp [dueEffect, fadeEnds, silenceEnds]
@[simp] theorem dueEffect_root (d : Due) (s : State) : (dueEffect d s).root = s.root := by
  cases d <;> simp [dueEffect, fadeEnds, silenceEnds]
@[simp] theorem dueEffect_engine (d : Due) (s : State) : (dueEffect d s).engine = s.engine := by
  cases d <;> simp [dueEffect, fadeEnds, silenceEnds]
@[simp] theorem dueEffect_reader (d : Due) (s : State) : (dueEffect d s).reader = s.reader := by
  cases d <;> simp [dueEffect, fadeEnds, silenceEnds]
@[simp] theorem dueEffect_budget (d : Due) (s : State) : (dueEffect d s).budget = s.budget := by
  cases d <;> simp [dueEffect, fadeEnds, silenceEnds]
@[simp] theorem dueEffect_mix (d : Due) (s : State) : (dueEffect d s).mix = s.mix := by
  cases d <;> simp [dueEffect, fadeEnds, silenceEnds]
@[simp] theorem dueEffect_tails (d : Due) (s : State) : (dueEffect d s).tails = s.tails := by
  cases d <;> simp [dueEffect, fadeEnds, silenceEnds]
@[simp] theorem dueEffect_prot (d : Due) (s : State) : (dueEffect d s).prot = s.prot := by
  cases d <;> simp [dueEffect, fadeEnds, silenceEnds]
@[simp] theorem dueEffect_store (d : Due) (s : State) : (dueEffect d s).store = s.store := by
  cases d <;> simp [dueEffect, fadeEnds, silenceEnds]
@[simp] theorem dueEffect_due (d : Due) (s : State) : (dueEffect d s).due = s.due := by
  cases d <;> simp [dueEffect, fadeEnds, silenceEnds]
@[simp] theorem dueEffect_freeIndex (d : Due) (s : State) : (dueEffect d s).freeIndex = s.freeIndex := by
  cases d <;> simp [dueEffect, fadeEnds, silenceEnds]
@[simp] theorem dueEffect_pending (d : Due) (s : State) : (dueEffect d s).pending = s.pending := by
  cases d <;> simp [dueEffect, fadeEnds, silenceEnds]

theorem dueFold_hostMem (ds : List Due) : ∀ s : State,
    (ds.foldl (fun t d => dueEffect d t) s).hostMem = s.hostMem := by
  induction ds with
  | nil => intro s; rfl
  | cons d ds ih => intro s; exact (ih _).trans (dueEffect_hostMem d s)
theorem dueFold_regs (ds : List Due) : ∀ s : State,
    (ds.foldl (fun t d => dueEffect d t) s).regs = s.regs := by
  induction ds with
  | nil => intro s; rfl
  | cons d ds ih => intro s; exact (ih _).trans (dueEffect_regs d s)
theorem dueFold_root (ds : List Due) : ∀ s : State,
    (ds.foldl (fun t d => dueEffect d t) s).root = s.root := by
  induction ds with
  | nil => intro s; rfl
  | cons d ds ih => intro s; exact (ih _).trans (dueEffect_root d s)
theorem dueFold_engine (ds : List Due) : ∀ s : State,
    (ds.foldl (fun t d => dueEffect d t) s).engine = s.engine := by
  induction ds with
  | nil => intro s; rfl
  | cons d ds ih => intro s; exact (ih _).trans (dueEffect_engine d s)
theorem dueFold_reader (ds : List Due) : ∀ s : State,
    (ds.foldl (fun t d => dueEffect d t) s).reader = s.reader := by
  induction ds with
  | nil => intro s; rfl
  | cons d ds ih => intro s; exact (ih _).trans (dueEffect_reader d s)
theorem dueFold_budget (ds : List Due) : ∀ s : State,
    (ds.foldl (fun t d => dueEffect d t) s).budget = s.budget := by
  induction ds with
  | nil => intro s; rfl
  | cons d ds ih => intro s; exact (ih _).trans (dueEffect_budget d s)
theorem dueFold_mix (ds : List Due) : ∀ s : State,
    (ds.foldl (fun t d => dueEffect d t) s).mix = s.mix := by
  induction ds with
  | nil => intro s; rfl
  | cons d ds ih => intro s; exact (ih _).trans (dueEffect_mix d s)
theorem dueFold_tails (ds : List Due) : ∀ s : State,
    (ds.foldl (fun t d => dueEffect d t) s).tails = s.tails := by
  induction ds with
  | nil => intro s; rfl
  | cons d ds ih => intro s; exact (ih _).trans (dueEffect_tails d s)
theorem dueFold_prot (ds : List Due) : ∀ s : State,
    (ds.foldl (fun t d => dueEffect d t) s).prot = s.prot := by
  induction ds with
  | nil => intro s; rfl
  | cons d ds ih => intro s; exact (ih _).trans (dueEffect_prot d s)
theorem dueFold_store (ds : List Due) : ∀ s : State,
    (ds.foldl (fun t d => dueEffect d t) s).store = s.store := by
  induction ds with
  | nil => intro s; rfl
  | cons d ds ih => intro s; exact (ih _).trans (dueEffect_store d s)
theorem dueFold_freeIndex (ds : List Due) : ∀ s : State,
    (ds.foldl (fun t d => dueEffect d t) s).freeIndex = s.freeIndex := by
  induction ds with
  | nil => intro s; rfl
  | cons d ds ih => intro s; exact (ih _).trans (dueEffect_freeIndex d s)
theorem dueFold_pending (ds : List Due) : ∀ s : State,
    (ds.foldl (fun t d => dueEffect d t) s).pending = s.pending := by
  induction ds with
  | nil => intro s; rfl
  | cons d ds ih => intro s; exact (ih _).trans (dueEffect_pending d s)
theorem dueFold_due (ds : List Due) : ∀ s : State, (ds.foldl (fun t d => dueEffect d t) s).due = s.due := by
  induction ds with
  | nil => intro s; rfl
  | cons d ds ih => intro s; exact (ih _).trans (dueEffect_due d s)

@[simp] theorem takeAllDue_hostMem (s : State) : (takeAllDue s).hostMem = s.hostMem := (dueFold_hostMem _ _).trans rfl
@[simp] theorem takeAllDue_regs (s : State) : (takeAllDue s).regs = s.regs := (dueFold_regs _ _).trans rfl
@[simp] theorem takeAllDue_root (s : State) : (takeAllDue s).root = s.root := (dueFold_root _ _).trans rfl
@[simp] theorem takeAllDue_engine (s : State) : (takeAllDue s).engine = s.engine := (dueFold_engine _ _).trans rfl
@[simp] theorem takeAllDue_reader (s : State) : (takeAllDue s).reader = s.reader := (dueFold_reader _ _).trans rfl
@[simp] theorem takeAllDue_budget (s : State) : (takeAllDue s).budget = s.budget := (dueFold_budget _ _).trans rfl
@[simp] theorem takeAllDue_mix (s : State) : (takeAllDue s).mix = s.mix := (dueFold_mix _ _).trans rfl
@[simp] theorem takeAllDue_tails (s : State) : (takeAllDue s).tails = s.tails := (dueFold_tails _ _).trans rfl
@[simp] theorem takeAllDue_prot (s : State) : (takeAllDue s).prot = s.prot := (dueFold_prot _ _).trans rfl
@[simp] theorem takeAllDue_store (s : State) : (takeAllDue s).store = s.store := (dueFold_store _ _).trans rfl
@[simp] theorem takeAllDue_freeIndex (s : State) : (takeAllDue s).freeIndex = s.freeIndex := (dueFold_freeIndex _ _).trans rfl
@[simp] theorem takeAllDue_pending (s : State) : (takeAllDue s).pending = s.pending := (dueFold_pending _ _).trans rfl

/-- No end is left due. -/
@[simp] theorem takeAllDue_due (s : State) : (takeAllDue s).due = [] := (dueFold_due _ _).trans rfl

/-- With nothing due nothing is taken. -/
theorem takeAllDue_of_none (s : State) (h : s.due = []) : takeAllDue s = s := by
  cases s
  simp only at h
  subst h
  rfl

/-- An end is taken the same, whatever else is due. -/
theorem dueEffect_setDue (d : Due) (s : State) (x : List Due) : dueEffect d (s.setDue x) = (dueEffect d s).setDue x := by
  cases d with
  | ramp _ | removal _ | dipLow _ | dipUp _ | silence _ | ringHold _ | holdoff => rfl
  | fade =>
    obtain ⟨_, _, root, ⟨_, fl, _⟩, _, _, _, _, _, _, _, _, _, _, _, _, _, _, _, _⟩ := s
    cases root <;> cases fl <;> rfl
  | meter =>
    obtain ⟨_, _, root, _, _, _, _, _, _, _, _, _, ⟨_, _, _, _, wr, _, _⟩, _, _, _, _, _, _, _⟩ := s
    cases root <;> cases wr <;> rfl

/-- The ends due are taken one after another, the first in the list first. -/
theorem takeAllDue_cons (s : State) (d : Due) (ds : List Due) (h : s.due = d :: ds) :
    takeAllDue s = takeAllDue (dueEffect d (s.setDue ds)) := by
  simp only [takeAllDue, h, List.foldl_cons, dueEffect_due, State.setDue_due]
  rw [dueEffect_setDue, dueEffect_setDue, State.setDue_setDue]

/-- The ends due leave every emitter mute gain. -/
@[simp] theorem takeAllDue_emitterGain (s : State) : (takeAllDue s).sup.emitterGain = s.sup.emitterGain := by
  have h : ∀ (ds : List Due) (t : State), (ds.foldl (fun t d => dueEffect d t) t).sup.emitterGain = t.sup.emitterGain := by
    intro ds
    induction ds with
    | nil => intro t; rfl
    | cons d ds ih =>
      intro t
      refine (ih _).trans ?_
      cases d <;> simp [dueEffect, fadeEnds, silenceEnds, Supervisor.setPickup]
  exact (h _ _).trans rfl

/-! ### `settle` -/

/-- R87's condition, as the manual has it. -/
theorem stoppingDone_iff (s : State) : stoppingDone s = true ↔
    s.engine.state = .stopping ∧ s.reader.state = .off ∧ (s.mix.clock = false ∨ ∀ e : Fin 96, s.sup.emitterGain[e] = 0) := by
  have : s.sup.emitterGain.toList.all (· == 0) = true ↔ ∀ e : Fin 96, s.sup.emitterGain[e] = 0 := by
    rw [List.all_eq_true]
    constructor
    · intro h e; simpa using h (s.sup.emitterGain[e]) (by simp)
    · intro h x hx
      obtain ⟨i, hi, rfl⟩ := List.getElem_of_mem hx
      simpa using h ⟨i, by simpa using hi⟩
  simp only [stoppingDone, Bool.and_eq_true, Bool.or_eq_true, this, decide_eq_true_eq]
  simp [and_assoc]

/-- After settling no STOPPING is past its condition. -/
@[simp] theorem stoppingDone_settle (s : State) : stoppingDone (settle s) = false := by
  have h : stoppingDone (finishStopping (takeAllDue s)) = false := by
    unfold finishStopping
    split
    · unfold endStopping; split <;> simp [stoppingDone, beginStart]
    · rename_i h; simpa using h
  simp only [settle]
  split
  · simpa [stoppingDone, openBlock] using h
  · exact h

@[simp] theorem settle_hostMem (s : State) : (settle s).hostMem = s.hostMem := by
  simp only [settle]; split <;> simp
@[simp] theorem settle_regs (s : State) : (settle s).regs = s.regs := by
  simp only [settle]; split <;> simp
@[simp] theorem settle_root (s : State) : (settle s).root = s.root := by
  simp only [settle]; split <;> simp
@[simp] theorem settle_reader (s : State) : (settle s).reader = s.reader := by
  simp only [settle]; split <;> simp
@[simp] theorem settle_budget (s : State) : (settle s).budget = s.budget := by
  simp only [settle]; split <;> simp
@[simp] theorem settle_tails (s : State) : (settle s).tails = s.tails := by
  simp only [settle]; split <;> simp
@[simp] theorem settle_prot (s : State) : (settle s).prot = s.prot := by
  simp only [settle]; split <;> simp
@[simp] theorem settle_store (s : State) : (settle s).store = s.store := by
  simp only [settle]; split <;> simp
@[simp] theorem settle_freeIndex (s : State) : (settle s).freeIndex = s.freeIndex := by
  simp only [settle]; split <;> simp
@[simp] theorem settle_pending (s : State) : (settle s).pending = s.pending := by
  simp only [settle]; split <;> simp

/-- After settling no end is due. -/
@[simp] theorem settle_due (s : State) : (settle s).due = [] := by
  simp only [settle]; split <;> simp

/-- After settling no block waits to begin. -/
@[simp] theorem settle_opening (s : State) : (settle s).mix.opening = false := by
  simp only [settle]
  split
  · rfl
  · rename_i h
    simpa using h

/-! ### `settleButMeter` -/

/-- With no expiry of the meter interval due, a SNAPSHOT card settles as every command does. -/
theorem settleButMeter_of_no_expiry (s : State) (h : Due.meter ∉ s.due) : settleButMeter s = settle s := by
  have h1 : s.due.filter (· ≠ Due.meter) = s.due :=
    List.filter_eq_self.mpr fun d hd => by simpa using fun e : d = Due.meter => h (e ▸ hd)
  have h2 : s.due.filter (· = Due.meter) = [] :=
    List.filter_eq_nil_iff.mpr fun d hd => by simpa using fun e : d = Due.meter => h (e ▸ hd)
  have h3 : ∀ t : State, t.due = [] → t.setDue [] = t := fun t ht => by
    obtain ⟨_⟩ := t; subst ht; rfl
  simp only [settleButMeter, h1, h2]
  exact h3 _ (settle_due s)

/-- Only expiries of the meter interval stay due. -/
@[simp] theorem settleButMeter_due (s : State) : (settleButMeter s).due = s.due.filter (· = .meter) := rfl
@[simp] theorem settleButMeter_hostMem (s : State) : (settleButMeter s).hostMem = s.hostMem := by simp [settleButMeter]
@[simp] theorem settleButMeter_regs (s : State) : (settleButMeter s).regs = s.regs := by simp [settleButMeter]
@[simp] theorem settleButMeter_root (s : State) : (settleButMeter s).root = s.root := by simp [settleButMeter]
@[simp] theorem settleButMeter_reader (s : State) : (settleButMeter s).reader = s.reader := by simp [settleButMeter]
@[simp] theorem settleButMeter_budget (s : State) : (settleButMeter s).budget = s.budget := by simp [settleButMeter]
@[simp] theorem settleButMeter_tails (s : State) : (settleButMeter s).tails = s.tails := by simp [settleButMeter]
@[simp] theorem settleButMeter_prot (s : State) : (settleButMeter s).prot = s.prot := by simp [settleButMeter]
@[simp] theorem settleButMeter_store (s : State) : (settleButMeter s).store = s.store := by simp [settleButMeter]
@[simp] theorem settleButMeter_freeIndex (s : State) : (settleButMeter s).freeIndex = s.freeIndex := by
  simp [settleButMeter]
@[simp] theorem settleButMeter_pending (s : State) : (settleButMeter s).pending = s.pending := by simp [settleButMeter]
@[simp] theorem settleButMeter_opening (s : State) : (settleButMeter s).mix.opening = false := by simp [settleButMeter]

end Sys2Proof.Machine
end

