-- ==== Sys2Proof/Laws/History.lean ====
section
/-! SUPPORT. Histories of samples: the canonical form changes no sample, and a push moves every sample one period back. -/

namespace Sys2Proof.Machine

/-- The zeros that the canonical form leaves out read as 0. -/
@[simp] theorem sampleAt_trimZeros (h : List Int) (d : Nat) : sampleAt (trimZeros h) d = sampleAt h d := by
  induction h generalizing d with
  | nil => rfl
  | cons x xs ih =>
    simp only [trimZeros]
    split
    · rename_i e
      have hz : ∀ n, sampleAt xs n = 0 := fun n => by rw [← ih n, e]; rfl
      split
      · rename_i hx
        cases d with
        | zero => simp [sampleAt, hx]
        | succ d => exact (hz d).symm
      · cases d with
        | zero => rfl
        | succ d => exact (hz d).symm
    · rename_i y ys e
      cases d with
      | zero => rfl
      | succ d => have := ih d; rw [e] at this; simpa [sampleAt] using this

/-- The newest sample stands at delay 0. -/
@[simp] theorem sampleAt_push_zero (n : Nat) (x : Int) (h : List Int) : sampleAt (pushSample (n + 1) x h) 0 = x := by
  simp only [pushSample, sampleAt_trimZeros]; rfl

/-- Every other sample within the depth stands one period further back. -/
theorem sampleAt_push_succ {n d : Nat} (hd : d < n) (x : Int) (h : List Int) :
    sampleAt (pushSample (n + 1) x h) (d + 1) = sampleAt h d := by
  rw [pushSample, sampleAt_trimZeros, List.take_succ_cons]
  simp only [sampleAt, List.getD_eq_getElem?_getD, List.getElem?_cons_succ, List.getElem?_take_of_lt hd]

end Sys2Proof.Machine
end

