-- ==== Sys2Proof/Laws/Items.lean ====
section
/-! SUPPORT. Cards in hand and their items: what `actingOn` says of a state, what `applyItems` and `muteItems` keep, and the one form of
an item card's completion. -/

namespace Sys2Proof.Machine

/-- A card on which its unit is to act is the card in hand, of that kind, with its list read. -/
theorem actingOn_eq_some {s : State} {k : CardKind} {h : Hand} {b : List Byte} (e : s.actingOn k = some (h, b)) :
    s.reader.hand = some h ∧ h.kind = some k ∧ h.phase = .acting b := by
  unfold State.actingOn at e
  split at e
  · simp at e
  · split at e <;> try (simp at e; done)
    split at e <;> simp at e
    obtain ⟨rfl, rfl⟩ := e
    simp_all

/-- What every item that passes keeps, the items of a card keep. -/
theorem applyItems_keeps {σ α : Type} {f : σ → α → Except Result σ} {P : σ → Prop}
    (step : ∀ x a y, P x → f x a = .ok y → P y) :
    ∀ (as : List α) (i : Nat) (x : σ), P x → P (applyItems f i as x).1 := by
  intro as
  induction as with
  | nil => intro i x h; exact h
  | cons a as ih =>
    intro i x h
    simp only [applyItems]
    split
    · rename_i y hy; exact ih _ _ (step _ _ _ h hy)
    · exact h

/-- An item that fails is one of the card's, and its result is the failure's. -/
theorem applyItems_fails {σ α : Type} {f : σ → α → Except Result σ} :
    ∀ (as : List α) (i : Nat) (x : σ) (n : Nat) (r : Result), (applyItems f i as x).2 = some (n, r) →
      i ≤ n ∧ n < i + as.length ∧ ∃ a ∈ as, f (applyItems f i as x).1 a = .error r := by
  intro as
  induction as with
  | nil => intro i x n r h; simp [applyItems] at h
  | cons a as ih =>
    intro i x n r h
    cases hy : f x a with
    | ok y =>
      simp only [applyItems, hy] at h ⊢
      obtain ⟨h1, h2, b, hb, h3⟩ := ih _ _ _ _ h
      exact ⟨by omega, by simp only [List.length_cons]; omega, b, List.mem_cons_of_mem _ hb, h3⟩
    | error e =>
      simp only [applyItems, hy, Option.some.injEq, Prod.mk.injEq] at h ⊢
      obtain ⟨rfl, rfl⟩ := h
      exact ⟨Nat.le_refl _, by simp, a, by simp, hy⟩

/-- The completion of a card with items in one form, OK and failure together. -/
theorem itemCompletion_eq (count detail : Nat) (o : Option (Nat × Result)) (returns : List (Nat × List Byte)) :
    itemCompletion count detail o returns =
      { result := (o.map Prod.snd).getD .ok, remaining := (o.map fun f => count - f.1).getD 0,
        detail := (o.map fun f => f.1 % 256).getD detail, returns := returns } := by
  cases o <;> rfl

/-- A mute card's copy keeps the map's size. -/
theorem muteItems_length (o : MuteOp) (a : Nat) (failAt : Option Nat) :
    ∀ (xs : List Nat) (i : Nat) (r : MuteRun), (muteItems o a failAt i xs r).1.flags.length = r.flags.length := by
  intro xs
  induction xs with
  | nil => intro i r; rfl
  | cons x xs ih =>
    intro i r
    simp only [muteItems]
    split
    · rfl
    · split
      · rfl
      · rw [ih]; simp

end Sys2Proof.Machine
end

