-- ==== Sys2Proof/Laws/Table.lean ====
section
/-! SUPPORT. The path table: ranks tell keys apart, and what insertion, change and removal of an entry do to keys and order. -/

namespace Sys2Proof.Machine

/-- Keys of one rank are one key (R8). -/
theorem Key.rank_injective {a b : Key} (h : a.rank = b.rank) : a = b := by
  rcases a with ⟨p, e⟩ | ⟨t, e⟩ | ⟨p, t⟩ <;> rcases b with ⟨q, f⟩ | ⟨u, f⟩ | ⟨q, u⟩ <;>
    simp only [Key.rank, Key.sourceCode, Key.destCode] at h <;> first | (exfalso; omega) | (congr 1 <;> apply Fin.ext <;> omega)

theorem hasKey_iff (t : List Entry) (k : Key) : hasKey t k = true ↔ ∃ e ∈ t, e.key = k := by simp [hasKey]

/-- Insertion adds the entry and nothing else. -/
theorem mem_insertEntry (x e : Entry) (t : List Entry) : x ∈ insertEntry e t ↔ x = e ∨ x ∈ t := by
  induction t with
  | nil => simp [insertEntry]
  | cons y ys ih =>
    simp only [insertEntry]
    split
    · simp
    · simp only [List.mem_cons, ih]; tauto

@[simp] theorem length_insertEntry (e : Entry) (t : List Entry) : (insertEntry e t).length = t.length + 1 := by
  induction t with
  | nil => rfl
  | cons y ys ih => simp only [insertEntry]; split <;> simp [ih]

/-- A new key is inserted at its place in key order (R8). -/
theorem insertEntry_ordered (e : Entry) (t : List Entry) (h : t.Pairwise fun a b => a.key.rank < b.key.rank)
    (hk : ∀ x ∈ t, x.key ≠ e.key) : (insertEntry e t).Pairwise fun a b => a.key.rank < b.key.rank := by
  induction t with
  | nil => simp [insertEntry]
  | cons y ys ih =>
    obtain ⟨h1, h2⟩ := List.pairwise_cons.1 h
    simp only [insertEntry]
    split
    · rename_i hlt
      refine List.pairwise_cons.2 ⟨fun z hz => ?_, h⟩
      rcases List.mem_cons.1 hz with rfl | hz
      · exact hlt
      · exact Nat.lt_trans hlt (h1 z hz)
    · rename_i hge
      refine List.pairwise_cons.2 ⟨fun z hz => ?_, ih h2 fun x hx => hk x (List.mem_cons_of_mem _ hx)⟩
      rcases (mem_insertEntry z e ys).1 hz with rfl | hz
      · have : y.key.rank ≠ z.key.rank := fun hr => hk y (by simp) (Key.rank_injective hr)
        omega
      · exact h1 z hz

/-- A change that keeps keys keeps the table's keys. -/
theorem updateEntry_keys (k : Key) (f : Entry → Entry) (hf : ∀ e, (f e).key = e.key) (t : List Entry) :
    (updateEntry k f t).map Entry.key = t.map Entry.key := by
  simp only [updateEntry, List.map_map]
  refine List.map_congr_left fun e _ => ?_
  simp only [Function.comp_apply]
  split <;> simp [hf]

theorem mem_removeEntry (e : Entry) (k : Key) (t : List Entry) : e ∈ removeEntry k t ↔ e ∈ t ∧ e.key ≠ k := by
  simp [removeEntry]

@[simp] theorem Entry.advance_key (e : Entry) : e.advance.key = e.key := by
  unfold Entry.advance; split <;> (try split) <;> rfl

@[simp] theorem Entry.advance_target (e : Entry) : e.advance.target = e.target := by
  unfold Entry.advance; split <;> (try split) <;> rfl

@[simp] theorem Entry.landRamp_key (e : Entry) : e.landRamp.key = e.key := rfl
@[simp] theorem Entry.upEnd_key (e : Entry) : e.upEnd.key = e.key := rfl
@[simp] theorem Entry.lowPoint_key (e : Entry) : e.lowPoint.key = e.key := by unfold Entry.lowPoint; split <;> rfl
@[simp] theorem Entry.lowPoint_target (e : Entry) : e.lowPoint.target = e.target := by unfold Entry.lowPoint; split <;> rfl

end Sys2Proof.Machine
end

