-- ==== Sys2Proof/Laws/Merge.lean ====
section
/-! SUPPORT. The SET items of a scene taken into the table: the order kept, and the entries there are afterwards. -/

namespace Sys2Proof.Machine

@[simp] theorem Entry.asked_key (cue : Nat) (g : Int) (e : Entry) : (Entry.asked cue g e).key = e.key := rfl

/-- A change that keeps keys keeps the table's order. -/
theorem updateEntry_ordered (k : Key) (f : Entry → Entry) (hf : ∀ e, (f e).key = e.key) (t : List Entry)
    (h : t.Pairwise fun x y => x.key.rank < y.key.rank) : (updateEntry k f t).Pairwise fun x y => x.key.rank < y.key.rank := by
  unfold updateEntry
  rw [List.pairwise_map]
  refine h.imp ?_
  intro a b hab
  split <;> split <;> simpa [hf] using hab

/-- An item taken into the table keeps its order (R8). -/
theorem mergeItem_ordered (cue : Nat) {t : List Entry} (i : StandbyItem) (h : t.Pairwise fun x y => x.key.rank < y.key.rank) :
    (mergeItem cue t i).Pairwise fun x y => x.key.rank < y.key.rank := by
  unfold mergeItem
  split
  · split
    · exact updateEntry_ordered _ (Entry.asked cue _) (fun _ => rfl) _ h
    · rename_i hk
      refine insertEntry_ordered _ _ h ?_
      intro x hx he
      exact hk ((hasKey_iff _ _).2 ⟨x, hx, he⟩)
  · exact h

theorem foldl_mergeItem_ordered (cue : Nat) (items : List StandbyItem) (t : List Entry) (h : t.Pairwise fun x y => x.key.rank < y.key.rank) :
    (items.foldl (mergeItem cue) t).Pairwise fun x y => x.key.rank < y.key.rank := by
  induction items generalizing t with
  | nil => exact h
  | cons i is ih => exact ih _ (mergeItem_ordered cue i h)

/-- In a scene of different keys an item is found by its key. -/
theorem find_item : ∀ (items : List StandbyItem), (items.Pairwise fun x y => x.key ≠ y.key) → ∀ i ∈ items,
    items.find? (fun j => j.key == i.key) = some i
  | [], _, i, h => by cases h
  | j :: js, hj, i, h => by
    obtain ⟨h1, h2⟩ := List.pairwise_cons.1 hj
    rcases List.mem_cons.1 h with rfl | h
    · rw [List.find?_cons_of_pos (by simp)]
    · rw [List.find?_cons_of_neg (by simpa using h1 i h)]; exact find_item js h2 i h

/-- In a scene of different keys the delay asked of a key is that of its one item, if this is a SET item (R55). -/
theorem askedDelay_eq (items : List StandbyItem) (hi : items.Pairwise fun x y => x.key ≠ y.key) (k : Key) :
    askedDelay items k =
      match items.find? fun i => i.key == k with
      | some { key := _, op := .set _ d } => some d
      | some { key := _, op := .retire } | none => none := by
  induction items with
  | nil => rfl
  | cons i is ih =>
    obtain ⟨h1, h2⟩ := List.pairwise_cons.1 hi
    have ih := ih h2
    unfold askedDelay at ih ⊢
    rw [List.findSome?_cons]
    by_cases hk : i.key = k
    · have hn : is.find? (fun j => j.key == k) = none := by
        rw [List.find?_eq_none]; intro j hj; simp; intro h; exact h1 j hj (by rw [h, hk])
      rw [hn] at ih
      rw [List.find?_cons_of_pos (by simpa using hk)]
      obtain ⟨ik, op⟩ := i
      simp only at hk
      cases op <;> simp [hk, ih]
    · rw [List.find?_cons_of_neg (by simpa using hk)]
      simp [hk, ih]

/-- What the SET item of its key, if there is one, makes of an entry in the table. -/
def Entry.touched (cue : Nat) (items : List StandbyItem) (o : Entry) : Entry :=
  match items.find? fun i => i.key == o.key with
  | some { key := _, op := .set g _ } => Entry.asked cue g o
  | _ => o

/-- After the SET items the table holds its entries as their items left them, and one new entry for each SET item whose
key it did not have (R55). -/
theorem mem_foldl_mergeItem (cue : Nat) : ∀ (items : List StandbyItem) (t : List Entry),
    t.Pairwise (fun x y => x.key.rank < y.key.rank) → items.Pairwise (fun x y => x.key ≠ y.key) → ∀ e,
    e ∈ items.foldl (mergeItem cue) t ↔ (∃ o ∈ t, e = Entry.touched cue items o)
      ∨ ∃ k g d, { key := k, op := .set g d } ∈ items ∧ hasKey t k = false ∧ e = newEntry cue k g d := by
  intro items
  induction items with
  | nil => intro t _ _ e; simp [Entry.touched]
  | cons i is ih =>
    intro t ht hi e
    obtain ⟨h1, h2⟩ := List.pairwise_cons.1 hi
    rw [List.foldl_cons, ih _ (mergeItem_ordered cue _ ht) h2 e]
    have notin : ∀ o : Entry, o.key = i.key → (is.find? fun j => j.key == o.key) = none := by
      intro o ho
      rw [List.find?_eq_none]; intro j hj; simp; intro h; exact h1 j hj (by rw [h, ho])
    obtain ⟨k, op⟩ := i
    cases op with
    | retire =>
      simp only [mergeItem]
      have tt : ∀ o, Entry.touched cue ({ key := k, op := .retire } :: is) o = Entry.touched cue is o := by
        intro o
        unfold Entry.touched
        by_cases ho : k = o.key
        · rw [List.find?_cons_of_pos (by simp [ho]), notin o ho.symm]
        · rw [List.find?_cons_of_neg (by simp [ho])]
      simp [tt]
    | set g d =>
      have tpos : ∀ o, o.key = k → Entry.touched cue ({ key := k, op := .set g d } :: is) o = Entry.asked cue g o := by
        intro o ho
        unfold Entry.touched
        rw [List.find?_cons_of_pos (by simp [ho])]
      have tneg : ∀ o, o.key ≠ k → Entry.touched cue ({ key := k, op := .set g d } :: is) o = Entry.touched cue is o := by
        intro o ho
        unfold Entry.touched
        rw [List.find?_cons_of_neg (by simpa using fun h => ho h.symm)]
      have tis : ∀ o, o.key = k → Entry.touched cue is o = o := by
        intro o ho; unfold Entry.touched; rw [notin o ho]
      simp only [mergeItem]
      by_cases hk : hasKey t k = true
      · rw [if_pos hk]
        have hh : ∀ j, hasKey (updateEntry k (Entry.asked cue g) t) j = hasKey t j := by
          intro j
          have := updateEntry_keys k (Entry.asked cue g) (fun _ => rfl) t
          rw [Bool.eq_iff_iff, hasKey_iff, hasKey_iff]
          constructor
          · rintro ⟨x, hx, rfl⟩
            have := this ▸ List.mem_map_of_mem (f := Entry.key) hx
            simpa using this
          · rintro ⟨x, hx, rfl⟩
            have := this.symm ▸ List.mem_map_of_mem (f := Entry.key) hx
            simpa using this
        constructor
        · rintro (⟨o, ho, rfl⟩ | ⟨k', g', d', hm, hkk, rfl⟩)
          · left
            simp only [updateEntry, List.mem_map] at ho
            obtain ⟨p, hp, rfl⟩ := ho
            refine ⟨p, hp, ?_⟩
            split
            · rename_i hpk; rw [tpos _ hpk, tis _ (by simpa [Entry.asked_key] using hpk)]
            · rename_i hpk; rw [tneg _ hpk]
          · right; exact ⟨k', g', d', List.mem_cons_of_mem _ hm, by rwa [hh] at hkk, rfl⟩
        · rintro (⟨o, ho, rfl⟩ | ⟨k', g', d', hm, hkk, rfl⟩)
          · left
            by_cases hok : o.key = k
            · refine ⟨Entry.asked cue g o, ?_, ?_⟩
              · simp only [updateEntry, List.mem_map]; exact ⟨o, ho, by simp [hok]⟩
              · rw [tpos _ hok, tis _ (by simpa [Entry.asked_key] using hok)]
            · refine ⟨o, ?_, tneg _ hok⟩
              simp only [updateEntry, List.mem_map]; exact ⟨o, ho, by simp [hok]⟩
          · right
            rcases List.mem_cons.1 hm with h | h
            · cases h; simp [hk] at hkk
            · exact ⟨k', g', d', h, by rw [hh]; exact hkk, rfl⟩
      · rw [if_neg hk]
        have hkf : hasKey t k = false := by simpa using hk
        have hnk : ∀ o ∈ t, o.key ≠ k := fun o ho h => hk ((hasKey_iff _ _).2 ⟨o, ho, h⟩)
        constructor
        · rintro (⟨o, ho, rfl⟩ | ⟨k', g', d', hm, hkk, rfl⟩)
          · rcases (mem_insertEntry _ _ _).1 ho with rfl | ho
            · right; exact ⟨k, g, d, by simp, hkf, tis _ rfl⟩
            · left; exact ⟨o, ho, (tneg _ (hnk o ho)).symm⟩
          · right
            refine ⟨k', g', d', List.mem_cons_of_mem _ hm, ?_, rfl⟩
            by_contra hc
            have hc : hasKey t k' = true := by simpa using hc
            obtain ⟨x, hx, hxk⟩ := (hasKey_iff _ _).1 hc
            have : hasKey (insertEntry (newEntry cue k g d) t) k' = true := (hasKey_iff _ _).2 ⟨x, (mem_insertEntry _ _ _).2 (.inr hx), hxk⟩
            rw [this] at hkk; cases hkk
        · rintro (⟨o, ho, rfl⟩ | ⟨k', g', d', hm, hkk, rfl⟩)
          · left; exact ⟨o, (mem_insertEntry _ _ _).2 (.inr ho), tneg _ (hnk o ho)⟩
          · rcases List.mem_cons.1 hm with h | h
            · cases h
              left; exact ⟨newEntry cue k g d, (mem_insertEntry _ _ _).2 (.inl rfl), (tis _ rfl).symm⟩
            · right
              refine ⟨k', g', d', h, ?_, rfl⟩
              by_contra hc
              have hc : hasKey (insertEntry (newEntry cue k g d) t) k' = true := by simpa using hc
              obtain ⟨x, hx, hxk⟩ := (hasKey_iff _ _).1 hc
              rcases (mem_insertEntry _ _ _).1 hx with rfl | hx
              · exact h1 _ h hxk
              · have := (hasKey_iff t k').2 ⟨x, hx, hxk⟩; rw [this] at hkk; cases hkk

end Sys2Proof.Machine
end

