-- ==== Sys2Proof/Laws/Notice.lean ====
section
/-! SUPPORT. The notice unit's operations: what handing on, posting and flushing leave as it stands, and which vectors a
flush posts. -/

namespace Sys2Proof.Machine

@[simp] theorem handOn_enable (u : NoticeUnit) : u.handOn.enable = u.enable := by unfold NoticeUnit.handOn; split <;> rfl
@[simp] theorem handOn_vectorCode (u : NoticeUnit) : u.handOn.vectorCode = u.vectorCode := by
  unfold NoticeUnit.handOn; split <;> rfl
@[simp] theorem handOn_mask (u : NoticeUnit) : u.handOn.mask = u.mask := by unfold NoticeUnit.handOn; split <;> rfl
@[simp] theorem handOn_pending (u : NoticeUnit) : u.handOn.pending = u.pending := by unfold NoticeUnit.handOn; split <;> rfl

/-- Handing on moves the queue's first write to the link port, or nothing where a write is in hand or none waits. -/
theorem handOn_cases (u : NoticeUnit) :
    (∃ w ws, u.handed = none ∧ u.queue = w :: ws ∧ u.handOn = { u with handed := some w, queue := ws })
      ∨ ((u.handed.isSome = true ∨ u.queue = []) ∧ u.handOn = u) := by
  unfold NoticeUnit.handOn
  split
  · rename_i w ws h1 h2; exact .inl ⟨w, ws, h1, h2, rfl⟩
  · rename_i h
    refine .inr ⟨?_, rfl⟩
    cases h1 : u.handed with
    | some _ => exact .inl rfl
    | none => cases h2 : u.queue with
      | nil => exact .inr rfl
      | cons w ws => exact absurd h2 (h w ws h1)

@[simp] theorem post_enable (r : Root) (v : Fin 8) (x : Raising) (u : NoticeUnit) : (u.post r v x).enable = u.enable := by
  unfold NoticeUnit.post; split <;> simp
@[simp] theorem post_vectorCode (r : Root) (v : Fin 8) (x : Raising) (u : NoticeUnit) :
    (u.post r v x).vectorCode = u.vectorCode := by
  unfold NoticeUnit.post; split <;> simp
@[simp] theorem post_mask (r : Root) (v : Fin 8) (x : Raising) (u : NoticeUnit) : (u.post r v x).mask = u.mask := by
  unfold NoticeUnit.post; split <;> simp

@[simp] theorem postPending_enable (r : Root) (u : NoticeUnit) (v : Fin 8) : (u.postPending r v).enable = u.enable := by
  unfold NoticeUnit.postPending; split
  · rfl
  · split <;> simp
@[simp] theorem postPending_vectorCode (r : Root) (u : NoticeUnit) (v : Fin 8) :
    (u.postPending r v).vectorCode = u.vectorCode := by
  unfold NoticeUnit.postPending; split
  · rfl
  · split <;> simp
@[simp] theorem postPending_mask (r : Root) (u : NoticeUnit) (v : Fin 8) : (u.postPending r v).mask = u.mask := by
  unfold NoticeUnit.postPending; split
  · rfl
  · split <;> simp

@[simp] theorem flush_enable (o : Option Root) (u : NoticeUnit) : (u.flush o).enable = u.enable := by
  unfold NoticeUnit.flush; split
  · rfl
  · split <;> simp
@[simp] theorem flush_vectorCode (o : Option Root) (u : NoticeUnit) : (u.flush o).vectorCode = u.vectorCode := by
  unfold NoticeUnit.flush; split
  · rfl
  · split <;> simp
@[simp] theorem flush_mask (o : Option Root) (u : NoticeUnit) : (u.flush o).mask = u.mask := by
  unfold NoticeUnit.flush; split
  · rfl
  · split <;> simp

/-! The end of a long card's completion touches what notices wait for, and nothing else of the unit. -/

@[simp] theorem longDone_enable (k : LongKind) (u : NoticeUnit) : (u.longDone k).enable = u.enable := rfl
@[simp] theorem longDone_vectorCode (k : LongKind) (u : NoticeUnit) : (u.longDone k).vectorCode = u.vectorCode := rfl
@[simp] theorem longDone_mask (k : LongKind) (u : NoticeUnit) : (u.longDone k).mask = u.mask := rfl
@[simp] theorem longDone_queue_length (k : LongKind) (u : NoticeUnit) : (u.longDone k).queue.length = u.queue.length := by
  simp [NoticeUnit.longDone]
@[simp] theorem longDone_handed_none (k : LongKind) (u : NoticeUnit) : (u.longDone k).handed = none ↔ u.handed = none := by
  simp [NoticeUnit.longDone]
@[simp] theorem longDone_pending_isSome (k : LongKind) (u : NoticeUnit) (v : Fin 8) :
    (u.longDone k).pending[v].isSome = u.pending[v].isSome := by
  simp [NoticeUnit.longDone]

/-- No notice of the unit follows a completion that has ended. -/
theorem longDone_follows_none (k : LongKind) (x : Raising) : k ∉ (x.longDone k).longs := by simp [Raising.longDone]

/-- What a notice write waits for: the progress record write, or a long card's completion, that its raising names and that is in
flight (R181). -/
theorem noticeWaits_iff (s : State) (w : NoticeWrite) :
    noticeWaits s w = true ↔
      (w.raising.after = some s.progress.seq ∧ s.progress.inFlight.isSome = true)
        ∨ ∃ k ∈ w.raising.longs, s.reader.completes k = true := by
  unfold noticeWaits waitsForProgress waitsForLong
  cases h : w.raising.after with
  | none => simp
  | some q => simp only [Bool.or_eq_true, Bool.and_eq_true, decide_eq_true_eq, List.any_eq_true, Option.some.injEq]; tauto

/-- A raising names only writes that are in flight. -/
theorem raisingOf_longs_in_flight (b : Raiser) (k : NoticeKind) (s : State) {l : LongKind} (h : l ∈ (raisingOf b k s).longs) :
    s.reader.completes l = true := by
  simp only [raisingOf, longsBefore] at h
  split at h <;> simp_all

/-- Nothing goes out while no root is held, or while notices are disabled. -/
theorem flush_none (u : NoticeUnit) : u.flush none = u := rfl
theorem flush_disabled (o : Option Root) (u : NoticeUnit) (h : u.enable = false) : u.flush o = u := by
  unfold NoticeUnit.flush; split <;> simp [h]

/-! A flush posts the lowest of the vectors that go out, as far as there is room. -/

/-- The vectors of a list that pend unmasked. -/
def NoticeUnit.goingOut (u : NoticeUnit) (vs : List (Fin 8)) : List (Fin 8) :=
  vs.filter fun v => u.pending[v].isSome && !u.mask.getLsbD v

/-- How many writes the unit can still take. -/
def NoticeUnit.room (u : NoticeUnit) : Nat := if u.handed.isSome then 16 - u.queue.length else 17

/-- The writes of the unit in the order they go, the one in hand first. -/
def NoticeUnit.inOrder (u : NoticeUnit) : List (Nat × Nat × Option Raising) :=
  (u.handed.toList ++ u.queue).map fun w => (w.addr, w.data, some w.raising)

/-- `t` is `u` with the vectors `went` posted and no longer pending. -/
def NoticeUnit.Flushed (r : Root) (u t : NoticeUnit) (went : List (Fin 8)) : Prop :=
  t.inOrder = u.inOrder ++ went.map (fun v => (r.noticeAddr, r.noticeBase + v.val, u.pending[v]))
    ∧ (u.handed.isSome = true → t.handed = u.handed) ∧ (t.handed = none → t.queue = [])
    ∧ (∀ v : Fin 8, t.pending[v] = if v ∈ went then none else u.pending[v])
    ∧ t = { u with pending := t.pending, queue := t.queue, handed := t.handed }

theorem foldl_postPending (r : Root) : ∀ (vs : List (Fin 8)) (u : NoticeUnit), vs.Nodup → (u.handed = none → u.queue = []) →
    NoticeUnit.Flushed r u (vs.foldl (NoticeUnit.postPending r) u) ((u.goingOut vs).take u.room) := by
  intro vs
  induction vs with
  | nil => intro u _ h; simp [NoticeUnit.Flushed, NoticeUnit.goingOut]; exact h
  | cons v vs ih =>
    intro u hn hu
    obtain ⟨hv, hn⟩ := List.nodup_cons.1 hn
    simp only [List.foldl_cons]
    by_cases hp : (u.pending[v].isSome && !u.mask.getLsbD v) = true
    · obtain ⟨x, hx⟩ := Option.isSome_iff_exists.1 (by simpa using (Bool.and_eq_true _ _ ▸ hp).1)
      have hm : u.mask.getLsbD v = false := by
        have := (Bool.and_eq_true _ _ ▸ hp).2
        cases h : u.mask.getLsbD v <;> simp_all
      have ho : u.goingOut (v :: vs) = v :: u.goingOut vs := by simp only [NoticeUnit.goingOut]; rw [List.filter_cons, if_pos hp]
      by_cases hr : u.queue.length < 16
      · -- posts
        let w : NoticeWrite := { addr := r.noticeAddr, data := r.noticeBase + v.val, raising := x }
        obtain ⟨u', hu', hs, hh, hh0, hpend, hmask, hroom, hrest⟩ : ∃ u', u.postPending r v = u' ∧ u'.inOrder = u.inOrder ++ [(r.noticeAddr, r.noticeBase + v.val, u.pending[v])]
            ∧ (u.handed.isSome = true → u'.handed = u.handed) ∧ u'.handed.isSome = true
            ∧ u'.pending = u.pending.set v none ∧ u'.mask = u.mask ∧ u.room = u'.room + 1
            ∧ u' = { u with pending := u'.pending, queue := u'.queue, handed := u'.handed } := by
          refine ⟨_, rfl, ?_⟩
          simp only [NoticeUnit.postPending, hx, hm, NoticeUnit.hasRoom, hr, NoticeUnit.post, NoticeUnit.handOn]
          cases hh : u.handed with
          | none => simp [hu hh, NoticeUnit.inOrder, hh, NoticeUnit.room]
          | some w0 => simp [NoticeUnit.inOrder, hh, NoticeUnit.room]; omega
        rw [hu']
        have := ih u' hn (fun h => by rw [h] at hh0; cases hh0)
        obtain ⟨a, b, c, d, e⟩ := this
        have hout : u'.goingOut vs = u.goingOut vs := by
          unfold NoticeUnit.goingOut
          apply List.filter_congr
          intro z hz
          have : v ≠ z := fun h => hv (h ▸ hz)
          rw [hpend, hmask]
          simp [Fin.val_inj, this]
        have hw : (u.goingOut (v :: vs)).take (u.room) = v :: (u'.goingOut vs).take (u'.room) := by
          rw [ho, hroom, hout]; rfl
        have hvn : v ∉ (u'.goingOut vs).take (u'.room) := fun h => hv (List.mem_of_mem_filter (List.mem_of_mem_take h))
        rw [hw]
        refine ⟨?_, ?_, c, ?_, e.trans ?_⟩
        · rw [a, hs]
          simp only [List.map_cons, List.append_assoc, List.cons_append, List.nil_append]
          congr 2
          apply List.map_congr_left
          intro z hz
          have : v ≠ z := fun h => hvn (h ▸ hz)
          rw [hpend]; simp [Fin.val_inj, this]
        · intro h; rw [b hh0, hh h]
        · intro z
          rw [d z, hpend]
          by_cases hz : z = v
          · subst hz; simp [hvn]
          · simp [hz, Fin.val_inj, Ne.symm hz]
        · have h1 : u'.enable = u.enable := by rw [hrest]
          have h2 : u'.vectorCode = u.vectorCode := by rw [hrest]
          rw [h1, h2, hmask]
      · -- no room
        have hnone : u.postPending r v = u := by
          simp only [NoticeUnit.postPending, hx, hm, NoticeUnit.hasRoom, hr]; simp
        have h0 : u.room = 0 := by
          unfold NoticeUnit.room
          cases hh : u.handed with
          | none => simp [hu hh] at hr
          | some w => simp; omega
        have := ih u hn hu
        rw [hnone]
        simpa [h0] using this
    · have ho : u.goingOut (v :: vs) = u.goingOut vs := by simp only [NoticeUnit.goingOut]; rw [List.filter_cons, if_neg hp]
      have hnone : u.postPending r v = u := by
        simp only [NoticeUnit.postPending]
        cases hx : u.pending[v] with
        | none => rfl
        | some x => simp only [hx] at hp ⊢; simp at hp; simp [hp]
      have := ih u hn hu
      rw [hnone, ho]
      exact this

end Sys2Proof.Machine
end

