-- ==== Sys2Proof/Laws/Reset.lean ====
section
/-! SUPPORT. What a reset does with the writes in flight: the progress record write and the notice write handed over. -/

namespace Sys2Proof.Machine

/-- A progress record write in flight touches host memory and the count of free values at most. -/
theorem landProgress_same (s : State) : SameOutside [.hostMem, .freeIndex] s (landProgress s) := by
  intro p hp
  unfold landProgress
  cases p <;> simp_all [Part.same] <;> split <;> (try split) <;> rfl

/-- A handed notice write touches host memory at most. -/
theorem landHanded_same (s : State) : SameOutside [.hostMem] s (landHanded s) := by
  intro p hp
  unfold landHanded
  cases p <;> simp_all [Part.same] <;> split <;> rfl

/-- A notice write that waits for the progress write in flight makes that write land first. -/
theorem progressLands_of_waits {s : State} {w : NoticeWrite} (h : s.notice.handed = some w) (hw : waitsForProgress s w = true) :
    progressLands s = true := by
  simp [progressLands, h, hw]

/-- A reset leaves in host memory what it held, with the progress write where it lands and then the handed notice write. -/
theorem resetAll_hostMem (powerOn : Bool) (s : State) :
    (resetAll powerOn s).hostMem = (landHanded (landProgress s)).hostMem := rfl

end Sys2Proof.Machine
end

