-- ==== Sys2Proof/Laws/Settle.lean ====
section
/-! SUPPORT. A settled state is its own settling, so that a claim about a settled state unfolds no `settle`. -/

namespace Sys2Proof.Machine

/-- Nothing is left to take in a settled state. -/
theorem settle_of_settled {s : State} (h : Settled s) : settle s = s := by
  obtain ⟨h1, h2, h3⟩ := h
  simp [settle, takeAllDue_of_none s h1, finishStopping, h2, h3]

/-- The card in hand after `complete` is the one given, in its completion. -/
@[simp] theorem complete_hand (h : Hand) (c : Completion) (s : State) :
    (complete h c s).reader.hand = some { h with phase := .completing (completionTransfers h.addr c) } := rfl

/-- A settled state stays settled where due ends, the mix engine, the engine, the reader's state and the emitter gains stand. -/
theorem Settled.congr {s t : State} (h : Settled s) (h1 : t.due = s.due) (h2 : t.mix = s.mix) (h3 : t.engine = s.engine)
    (h4 : t.reader.state = s.reader.state) (h5 : t.sup = s.sup) : Settled t := by
  obtain ⟨a, b, c⟩ := h
  refine ⟨h1.trans a, (congrArg Mix.opening h2).trans b, ?_⟩
  simpa [stoppingDone, h2, h3, h4, h5] using c

/-- A frame, part by part: what `SameOutside` comes to on a list of parts. -/
theorem sameOutside_iff (l : List Part) (s t : State) : SameOutside l s t ↔
  ((.hostMem ∈ l ∨ t.hostMem = s.hostMem) ∧ (.regs ∈ l ∨ t.regs = s.regs) ∧ (.root ∈ l ∨ t.root = s.root)
  ∧ (.progress ∈ l ∨ t.progress = s.progress) ∧ (.engine ∈ l ∨ t.engine = s.engine) ∧ (.reader ∈ l ∨ t.reader = s.reader)
  ∧ (.stager ∈ l ∨ t.stager = s.stager) ∧ (.table ∈ l ∨ t.table = s.table) ∧ (.budget ∈ l ∨ t.budget = s.budget)
  ∧ (.mix ∈ l ∨ t.mix = s.mix) ∧ (.tails ∈ l ∨ t.tails = s.tails) ∧ (.sup ∈ l ∨ t.sup = s.sup)
  ∧ (.meter ∈ l ∨ t.meter = s.meter) ∧ (.cue ∈ l ∨ t.cue = s.cue) ∧ (.notice ∈ l ∨ t.notice = s.notice)
  ∧ (.prot ∈ l ∨ t.prot = s.prot) ∧ (.store ∈ l ∨ t.store = s.store) ∧ (.due ∈ l ∨ t.due = s.due)
  ∧ (.freeIndex ∈ l ∨ t.freeIndex = s.freeIndex) ∧ (.pending ∈ l ∨ t.pending = s.pending)) := by
  constructor
  · intro h
    have all : ∀ p : Part, p ∈ l ∨ p.same s t := fun p => or_iff_not_imp_left.mpr (h p)
    exact ⟨all .hostMem, all .regs, all .root, all .progress, all .engine, all .reader, all .stager, all .table, all .budget,
      all .mix, all .tails, all .sup, all .meter, all .cue, all .notice, all .prot, all .store, all .due, all .freeIndex,
      all .pending⟩
  · rintro ⟨h1, h2, h3, h4, h5, h6, h7, h8, h9, h10, h11, h12, h13, h14, h15, h16, h17, h18, h19, h20⟩ p
    cases p with
    | hostMem => exact h1.resolve_left
    | regs => exact h2.resolve_left
    | root => exact h3.resolve_left
    | progress => exact h4.resolve_left
    | engine => exact h5.resolve_left
    | reader => exact h6.resolve_left
    | stager => exact h7.resolve_left
    | table => exact h8.resolve_left
    | budget => exact h9.resolve_left
    | mix => exact h10.resolve_left
    | tails => exact h11.resolve_left
    | sup => exact h12.resolve_left
    | meter => exact h13.resolve_left
    | cue => exact h14.resolve_left
    | notice => exact h15.resolve_left
    | prot => exact h16.resolve_left
    | store => exact h17.resolve_left
    | due => exact h18.resolve_left
    | freeIndex => exact h19.resolve_left
    | pending => exact h20.resolve_left

end Sys2Proof.Machine
end

