-- ==== Sys2Proof/WellFormed.lean ====
section
/-! DEFINITION. Which terms of `Instr` are commands that can come to the block. Most operands cannot be written out of
range; these are the checks that remain. The meanings are total and do not rest on them. -/

namespace Sys2Proof

/-- The number of bits of an access. -/
def AccessWidth.bits : AccessWidth → Nat
  | .byte => 8
  | .half => 16
  | .word => 32

/-- An access carries no value above its own width (R160). -/
def accessFits (w : AccessWidth) (v : Word) : Bool := decide (v.toNat < 2 ^ w.bits)

/-- A failing transfer, if there is one, is one of the `n` transfers there can be. -/
def failFits (n : Nat) : Option Nat → Bool
  | none => true
  | some i => decide (i < n)

/-- Well-formed commands: a register access carries a value of its width (R160); a card has at most 256 items
(R175); a long card's completion has three transfers (R168, R176). -/
def Instr.wf : Instr → Bool
  | .registerWrite _ w v => accessFits w v
  | .mutes f => failFits 256 f
  | .longCardCompletion _ f => failFits 3 f
  | .powerOnReset | .linkReset | .engineReset | .storeLoadEnd _ | .runStart | .runStop | .noticeEnable _
  | .vectorCount _ | .sweepNow | .noticeMaskWrite _ | .faultClear _ | .rootReadEnd _ | .stoppingEnd | .clockLoss
  | .clockReturn | .laneLock _ | .laneLoss _ | .blockEnd | .rampEnd _ | .entryRemoval _ | .dipLowPoint _
  | .dipUpEnd _ | .fadeEnd | .silenceLimit _ | .ringHoldEnd _ | .meterIntervalExpiry | .meterPageWriteEnd _
  | .holdoffExpiry | .cueLineSample _ | .lineGo | .sweepTimerExpiry | .slotRead _ | .itemListRead _
  | .cardWriteEnd _ | .sweepEnd | .stage | .standby | .dropStandby | .go | .ceilings | .tails | .patches
  | .pickups | .snapshot | .cueLine | .setCode | .unlock | .relock | .clearCode | .fix | .fuseBlowEnd _ | .store
  | .storeEraseEnd | .storeProgramEnd _ | .storeVerifyEnd _ | .report | .reportTransferEnd _
  | .progressWriteEnd _ | .noticeWriteEnd _ | .sampleComputation _ _ => true

end Sys2Proof
end

