-- ==== Sys2Proof/Tests/Slice0.lean ====
section
/-! SUPPORT. Tests: the checks of WellFormed on ill-formed terms, the manual's worked examples, one small step of each kind of
command, and a witness for the hypotheses of each obligation. Expected values are the manual's or follow from its rules by hand. -/

namespace Sys2Proof.Tests

open Sys2Proof.Machine

-- One kernel evaluation at a time: each thread of the compiler takes a large stack.
set_option Elab.async false

/-! ### Helpers -/

/-- The state an outcome answers, the reset state where it answers none. -/
def stateOf (o : Host.Outcome State Fault Refusal) : State :=
  match o with
  | .next s => s
  | .fault _ => State.reset
  | .refused _ => State.reset

/-- The state after a command. -/
def after (c : Instr) (s : State) : State := stateOf (exec c s)

/-- A root with 6 slots and first tag 100 (section 10.7), data base 0x0400 (chapter 11). -/
def root0 : Root :=
  { addr := 0x1000, cardTable := 0x2000, slotCount := 6, firstTag := 100, sweepInterval := 10, meterPage := 0x4000,
    meterInterval := 2, noticeAddr := 0x3000, noticeBase := 0x400 }

/-- RUNNING with a root held, the clock present, the reader IDLE. -/
def live : State :=
  { State.reset with
    engine := { state := .running, run := true, startAddr := 0x1000 }
    root := some root0
    reader := { Reader.afterReset with state := .idle, nextTag := 100 }
    store := { state := .idle, seq := 6, flash := erasedFlash }
    mix := { Mix.afterReset with clock := true } }

/-- A vector of 40 argument bytes that begins with the bytes given. -/
def argBytes (bs : List Byte) : Vector Byte 40 := Vector.ofFn fun i : Fin 40 => bs.getD i.val 0

/-- A card in hand, in slot 2. -/
def hand (k : CardKind) (count : Nat) (args : List Byte) (p : Phase) : Hand :=
  { slot := 2, addr := 0x2080, kind := some k, count := count, notify := true, listAddr := 0x8000, args := argBytes args,
    stale := false, phase := p }

/-- The state with a card in hand in a sweep. -/
def withHand (h : Hand) (s : State) : State := s.setReader { s.reader with state := .sweeping, hand := some h }

/-- A card whose unit is to act. -/
def acting (k : CardKind) (count : Nat) (args items : List Byte) (s : State) : State :=
  withHand (hand k count args (.acting items)) s

/-- The result a completing card writes, with its remaining and detail bytes, and its return fields. -/
def completion (s : State) : Option (List (List Byte)) :=
  match s.reader.hand with
  | some h =>
    match h.phase with
    | .completing ts => some (ts.map Transfer.bytes)
    | .taking | .listing _ _ | .acting _ | .blowing | .reporting _ _ _ _ _ => none
  | none => none

/-- A SETTLED entry at its target, which is its requested gain. -/
def entry (k : Key) (g : Int) (d : Nat) : Entry :=
  { key := k, requested := g, target := g, current := g, delay := d, motion := .settled, lastCue := 1 }

/-- The state with an end due. -/
def dueState (d : Due) (s : State) : State := s.setDue [d]

/-! ### WellFormed: one ill-formed term for each check, and its neighbour that passes -/

theorem test_wf_refuses_wide_byte_write : (Instr.registerWrite 4 .byte 256).wf = false := by decide
theorem test_wf_refuses_wide_half_write : (Instr.registerWrite 4 .half 65536).wf = false := by decide
theorem test_wf_accepts_byte_write : (Instr.registerWrite 4 .byte 255).wf = true := by decide
theorem test_wf_refuses_mute_item_256 : (Instr.mutes (some 256)).wf = false := by decide
theorem test_wf_accepts_mute_item_255 : (Instr.mutes (some 255)).wf = true := by decide
theorem test_wf_refuses_fourth_completion_transfer : (Instr.longCardCompletion .store (some 3)).wf = false := by decide
theorem test_wf_accepts_third_completion_transfer : (Instr.longCardCompletion .store (some 2)).wf = true := by decide

/-! ### The step and the table's words -/

/-- An empty queue idles. -/
theorem test_empty_queue_idles : step State.reset = .next State.reset := rfl

/-- The table gives no row bits. -/
theorem test_no_word_spells_a_command : decodeTableWord 32 5 = none := rfl

/-! ### Worked examples of the manual: gains, budget, ramps -/

/-- Section 1.5, rows 1, 3 and 5. -/
theorem test_effective_gains : effectiveGain (-1602) 87 256 = -544 ∧ effectiveGain 8192 128 160 = 2560
    ∧ effectiveGain 14563 0 256 = 0 := by decide

/-- The six entries of section 2.7 as a scene requests them. -/
def budgetTable : List Entry :=
  [entry (.pickupToEmitter 3 7) 8192 0, entry (.pickupToEmitter 4 7) (-6144) 0, entry (.tailToEmitter 2 7) 16384 0,
   entry (.pickupToTail 3 2) 20000 0, entry (.pickupToTail 5 2) 16000 0]

/-- E7's ceiling of section 2.7. -/
def budget0 (c : Nat) : Budget :=
  { ceilings := Vector.ofFn fun e : Fin 96 => if e = 7 then c else 0, clamped := Vector.replicate 96 false }

/-- Section 2.7, step 1. -/
theorem test_budget_targets : (fullBudget (budget0 12288) budgetTable).map Entry.target = [2137, -1602, 4274, 18204, 14563]
    ∧ (fullClamp (budget0 12288) budgetTable)[7] = true := by decide +kernel

/-- Section 2.8, row 7: a scaled emitter loses its smallest path. -/
theorem test_budget_smallest_path : (fullBudget (budget0 16384)
    [entry (.pickupToEmitter 1 7) 16384 0, entry (.pickupToEmitter 2 7) 1 0]).map Entry.target = [16383, 0] := by decide +kernel

/-- Section 2.8, row 4: a tail of weight 0 into an emitter of ceiling 0. -/
theorem test_budget_zero_ceiling : (fullBudget (budget0 0) [entry (.tailToEmitter 5 7) 8192 0]).map Entry.target = [0]
    ∧ (fullClamp (budget0 0) [entry (.tailToEmitter 5 7) 8192 0])[7] = true := by decide +kernel

/-- Section 4.8, a seven-block ramp: block ends 3 and 6. -/
theorem test_seven_block_ramp :
    let e := ordinaryRamp 7 { entry (.pickupToEmitter 0 1) 0 0 with current := 1000, target := -2000 }
    (Nat.iterate Entry.advance 3 e).current = -284 ∧ (Nat.iterate Entry.advance 6 e).current = -1568
      ∧ (Nat.iterate Entry.advance 6 e).dueEnd = some (.ramp (.pickupToEmitter 0 1)) := by decide

/-- Section 4.8, a five-block dip: after block end 1, the low point, and block end 4. -/
theorem test_five_block_dip :
    let e := dipTo 5 360 { entry (.pickupToEmitter 0 1) 6000 240 with target := 8192 }
    let low := e.advance.lowPoint
    e.advance.current = 3000 ∧ e.advance.delay = 240 ∧ low.current = 0 ∧ low.delay = 360 ∧ low.motion = .dipUp 2730 3
      ∧ low.advance.advance.current = 5460 ∧ low.advance.advance.upEnd.current = 8192 := by decide

/-- Section 4.8, a dip retargeted by a CEILINGS card over 10 blocks. -/
theorem test_dip_retargeted : (ceilingMovement 10 { (dipTo 5 360 { entry (.pickupToEmitter 0 1) 6000 240 with target := 8192 }).advance
    with target := 4000 }).motion = .dipDown (-600) 5 360 5 := by decide

/-- Section 4.8, a mute reversed. -/
theorem test_mute_reversed : Nat.iterate (moveGain 0) 3 256 = 160 ∧ Nat.iterate (moveGain 256) 3 160 = 256 := by decide

/-! ### Worked examples: the mix, the measures, the rounding -/

/-- Section 5.6: 3,668,600,000 becomes 223,914, and 138,017,400,000 saturates. -/
theorem test_emitter_sample : roundSum 3668600000 = 223914 ∧ saturate (roundSum 138017400000) = 8388607
    ∧ saturates (roundSum 138017400000) = true := by decide

/-- Section 5.7: the two measures of the examples. -/
theorem test_block_measures :
    (Measure.closed { peak := 0, squares := 48000000000000 }).energy = 2861022
      ∧ (Measure.closed { peak := 0, squares := 24 * 70368744177664 + 24 * 70368727400449 }).energy = 201326568
      ∧ (Measure.take (-8388608) { peak := 0, squares := 0 }).peak = 8388607 := by decide

/-- Section 6.9: tap 3 of D12 takes slot 2 before slot 5, and slot 6 is ineffective. -/
theorem test_patched_taps :
    let a : Option Patch := some { design := 12, tap := 3, delay := 5000, gain := -4096 }
    let b : Option Patch := some { design := 12, tap := 3, delay := 6000, gain := 2048 }
    let c : Option Patch := some { design := 12, tap := 16, delay := 7000, gain := 1000 }
    effectiveTap #v[none, none, a, none, none, b, c, none] 12 3 = { delay := 5000, gain := -4096 }
      ∧ effectiveTap #v[none, none, none, none, none, b, c, none] 12 3 = { delay := 6000, gain := 2048 }
      ∧ ineffective c = true := by decide +kernel

/-! ### Worked examples: pickups, cue line, notices -/

/-- P9 of section 7.10 before block end 1. -/
def pickup9 : Pickup :=
  { Pickup.afterReset .factory with
    state := .live, previous := 2900, rises := [false, false, false, false], muteGain := 256 }

/-- Section 7.10: block ends 1 to 8, with a peak above the floor. -/
def pickup9At (energies : List Nat) : Pickup := energies.foldl (fun p e => (p.blockEnd (100, e)).1) pickup9

theorem test_ring_first_event : pickup9At [3000, 5000, 8000, 12500] =
    { pickup9 with previous := 12500, rises := [], state := .ringing, trim := 128, hold := 500, ringCount := 1 } := by decide

theorem test_ring_second_event : pickup9At [3000, 5000, 8000, 12500, 20000, 32000, 51200, 30000] =
    { pickup9 with previous := 30000, rises := [false], state := .ringing, trim := 64, hold := 499, ringCount := 2 } := by decide

/-- Section 7.10: P9 SILENT returns at the fourth block. -/
theorem test_silent_returns :
    ([900, 40, 1200].foldl (fun p k => (Pickup.blockEnd (k, 0) p).1) { pickup9 with state := .silent, presence := [] }).presence
        = [true, false, true]
      ∧ ([900, 40, 1200, 700].foldl (fun p k => (Pickup.blockEnd (k, 0) p).1) { pickup9 with state := .silent }).trim = 32 := by
  decide

/-- Section 9.2: HIGH, LOW, HIGH, LOW, LOW leaves HIGH at the fifth sample, not before. -/
theorem test_line_filter :
    let c : CueLine := { CueLine.afterReset with enable := true, filter := 4, filtered := some .high }
    let run := fun xs : List Level => (xs.foldl (fun c x => CueLine.sampled x c) c).filtered
    run [.high, .low, .high, .low] = some .high ∧ run [.high, .low, .high, .low, .low] = some .low := by decide

/-- Four vectors, vector 3 masked (chapter 11). -/
def fourVectors : State :=
  live.setNotice { live.notice with enable := true, vectorCode := 2, mask := 8 }

/-- Chapter 11: RING pends on vector 3, and goes out when the host clears the mask bit. -/
theorem test_masked_vector :
    let s := raise .supervisor .pickup (raise .supervisor .ring fourVectors)
    s.notice.pending.toList.map Option.isSome = [false, false, false, true, false, false, false, false]
      ∧ (after (.noticeMaskWrite 0) s).notice.handed.map NoticeWrite.data = some 0x403
      ∧ (after (.noticeMaskWrite 0) s).notice.pending = Vector.replicate 8 none := by decide +kernel

/-- Chapter 11: CUE, FADE and CARD go to vectors 1, 2 and 0. -/
theorem test_three_vectors :
    let s := raise .reader .card (raise .stager .fade (raise .stager .cue fourVectors))
    s.notice.handed.map NoticeWrite.data = some 0x401 ∧ s.notice.queue.map NoticeWrite.data = [0x402, 0x400] := by decide +kernel

/-! ### Resets, registers and run control -/

theorem test_power_on_clears_fault :
    (after .powerOnReset (markFault .clock live)).regs.fault = 0 ∧ (after .powerOnReset live).engine.state = .loading := by
  decide +kernel

theorem test_link_reset_keeps_fault : (after .linkReset (markFault .clock live)).regs.fault = 4 := by decide +kernel

theorem test_engine_reset_lands_handed_notice :
    let s := after .engineReset (raise .mix .clip (live.setNotice { live.notice with enable := true }))
    s.readHost 0x3001 = some 4 ∧ s.notice = .afterReset := by decide +kernel

/-- R181, R183: a CUE write that waits for its unit's progress write lands after it, so both have landed. -/
theorem test_reset_lands_what_a_notice_waits_for :
    let s := progressOccasion (fourVectors.setNotice { fourVectors.notice with mask := 0 })
    let t := after .linkReset (raise .stager .cue s)
    t.readHost 0x1040 = some 3 ∧ t.readHost 0x3000 = some 1 ∧ t.progress = .afterReset := by decide +kernel

/-- R192: an erased flash is a bad image, and the fuse intact leaves NONE. -/
theorem test_load_of_erased_flash : (after (.storeLoadEnd true) State.reset).engine.state = .stopped
    ∧ (after (.storeLoadEnd true) State.reset).regs.fault = 16 := by decide +kernel

theorem test_run_start_takes_exchange_address :
    (after .runStart (after (.registerWrite 0x0C .word 0x12345678) (after (.storeLoadEnd true) State.reset))).engine
      = { state := .starting, run := true, startAddr := 0x12345640 } := by decide +kernel

theorem test_run_stop_goes_through_stopping : (after .runStop live).engine.state = .stopped
    ∧ (after .runStop (live.setSup { live.sup with emitterGain := Vector.replicate 96 32 })).engine.state = .stopping := by
  decide +kernel

theorem test_stopping_end :
    (after .stoppingEnd (live.setEngine { live.engine with state := .stopping, run := false }
      |>.setReader Reader.afterReset)).engine.state = .stopped := by decide +kernel

theorem test_notice_disable_clears_pending :
    (after (.noticeEnable false) (raise .supervisor .ring fourVectors)).notice.pending = Vector.replicate 8 none := by
  decide +kernel

theorem test_vector_count : (after (.vectorCount 3) live).notice.vectorCode = 3 ∧ vectorOf 3 .fault = 7 ∧ vectorOf 1 .fault = 1 := by
  decide +kernel

theorem test_sweep_now : (after .sweepNow live).reader.state = .sweeping ∧ (after .sweepNow State.reset).reader.state = .off := by
  decide +kernel

theorem test_fault_clear : (after (.faultClear 4) (markFault .lane (markFault .clock live))).regs.fault = 8 := by decide +kernel

/-- R160: a narrow write is dropped. -/
theorem test_narrow_write_is_dropped : exec (.registerWrite 0x04 .byte 2) live = .next live := by
  rw [show live = settle live by decide +kernel]; rfl

/-- R161: STATUS of a RUNNING part, reader IDLE, store IDLE, clock PRESENT, revision 2. -/
theorem test_status_word : readRegister 0x08 .word live = 0x02000113 ∧ readRegister 0x04 .word fourVectors = 0x25 := by
  decide +kernel

/-- The first 64 bytes of a root record with 6 slots, first tag 100, card table 0x2000, page 0x4000, notices at 0x3000, sweep interval
10, meter interval 2 and data base 0x0400 (R174). -/
def rootBytes : Vector Byte 64 := Vector.ofFn fun i : Fin 64 =>
  ([0x52, 0x51, 0x58, 0x31, 6, 0, 100, 0, 0, 0x20, 0, 0, 0, 0, 0, 0, 0, 0x40, 0, 0, 0, 0, 0, 0, 0, 0x30, 0, 0, 0, 0, 0, 0]
    ++ [10, 0, 2, 0, 0, 4] : List Byte).getD i.val 0

theorem test_root_read : Root.ofRead 0x1000 (some rootBytes) = some root0 ∧ Root.ofRead 0x1000 (some (rootBytes.set 0 0x51)) = none
    ∧ Root.ofRead 0x1000 (some (rootBytes.set 8 0x20)) = none := by decide +kernel

theorem test_root_read_enters_running :
    let s := live.setEngine { live.engine with state := .starting }
    (after (.rootReadEnd (some rootBytes)) s).engine.state = .running ∧ (after (.rootReadEnd none) s).regs.fault = 2 := by
  decide +kernel

/-! ### Clock, lanes, samples and block ends -/

theorem test_clock_loss : (after .clockLoss live).regs.fault = 4 ∧ (after .clockLoss live).mix.clock = false := by decide +kernel

/-- R85, R91: a LOADING part's lanes carry 0 without a clock, and a RUNNING one's carry nothing. -/
theorem test_lanes_without_clock :
    (after .clockLoss (after .clockReturn State.reset)).mix.lanesOut = some (Vector.replicate 96 0)
      ∧ (after .clockLoss live).mix.lanesOut = none := by decide +kernel

/-- R94: E7 is on lane 0, channel 7, E95 on lane 5, channel 15. -/
theorem test_output_lanes :
    let m := { live.mix with lanesOut := some (Vector.ofFn fun e : Fin 96 => (e.val : Int)) }
    (m.outputLanes.map fun o => (o[0][7], o[1][0], o[5][15])) = some (7, 16, 95) := by decide +kernel

theorem test_clock_return : (after .clockReturn (after .clockLoss live)).mix.clock = true := by decide +kernel

/-- A block of samples has been computed up to sample `n`. -/
def withBlock (n : Nat) (s : State) : State := s.setMix { s.mix with block := some { freshBlock (blockStart s) with index := n } }

/-- Lane 0 has found its marker in 48 periods. -/
def laneReady (s : State) : State := s.setMix { s.mix with lockRun := s.mix.lockRun.set 0 48 }

theorem test_lane_lock : (after (.laneLock 0) (laneReady live)).mix.locks.toList = [true, false, false, false] := by decide +kernel

theorem test_lane_loss : (after (.laneLoss 0) (after (.laneLock 0) (laneReady live))).regs.fault = 8 := by decide +kernel

/-- P0 to E1 at unity with lane 0 locked: the sample of this period is in the formed frame. -/
theorem test_sample_reaches_emitter :
    let p : Pickup := { pickup9 with muteGain := 256 }
    let s := { live with
      table := [entry (.pickupToEmitter 0 1) 16384 0]
      sup := { pickups := Vector.replicate 32 p, emitterFlag := Vector.replicate 96 false, emitterGain := Vector.replicate 96 256 } }
    let t := after (.sampleComputation (Vector.replicate 32 0xFFFF9C) 1) (after (.laneLock 0) (laneReady s))
    t.mix.formed[1] = -100 ∧ t.mix.formed[0] = 0 ∧ t.mix.pickupHist[8] = [] := by decide +kernel

theorem test_block_end_moves_gains : (after .blockEnd (withBlock 48 live)).sup.emitterGain = Vector.replicate 96 32
    ∧ (after .blockEnd (withBlock 47 live)).sup.emitterGain = Vector.replicate 96 0 := by decide +kernel

theorem test_block_end_makes_ramp_end_due :
    let s := live.setTable [{ entry (.pickupToEmitter 0 1) 500 0 with current := 400, motion := .ramping 50 1 }]
    (after .blockEnd (withBlock 48 s)).due = [.ramp (.pickupToEmitter 0 1)]
      ∧ (after (.rampEnd (.pickupToEmitter 0 1)) (after .blockEnd (withBlock 48 s))).table = [entry (.pickupToEmitter 0 1) 500 0] := by
  decide +kernel

theorem test_entry_removal :
    (after (.entryRemoval (.pickupToEmitter 0 1)) (dueState (.removal (.pickupToEmitter 0 1))
      (live.setTable [entry (.pickupToEmitter 0 1) 5 0, entry (.pickupToEmitter 1 1) 5 0]))).table
      = [entry (.pickupToEmitter 1 1) 5 0] := by decide +kernel

theorem test_dip_low_point :
    (after (.dipLowPoint (.pickupToEmitter 0 1)) (dueState (.dipLow (.pickupToEmitter 0 1))
      (live.setTable [{ entry (.pickupToEmitter 0 1) 8192 240 with current := 3000, motion := .dipDown (-3000) 1 360 3 }]))).table
      = [{ entry (.pickupToEmitter 0 1) 8192 360 with current := 0, motion := .dipUp 2730 3 }] := by decide +kernel

theorem test_dip_up_end :
    (after (.dipUpEnd (.pickupToEmitter 0 1)) (dueState (.dipUp (.pickupToEmitter 0 1))
      (live.setTable [{ entry (.pickupToEmitter 0 1) 8192 360 with current := 5460, motion := .dipUp 2730 1 }]))).table
      = [entry (.pickupToEmitter 0 1) 8192 360] := by decide +kernel

theorem test_fade_end :
    (after .fadeEnd (dueState .fade (live.setStager { live.stager with fade := { cue := 11, remaining := 1, counting := true } }))).stager.fade
      = { cue := 11, remaining := 0, counting := false } := by decide +kernel

/-- A LIVE pickup in P9's place. -/
def withP9 (p : Pickup) (s : State) : State := s.setSup (s.sup.setPickup 9 p)

theorem test_silence_limit :
    (after (.silenceLimit 9) (dueState (.silence 9) (withP9 { pickup9 with silence := 10000 } live))).sup.pickups[9]
      = { pickup9 with state := .silent, silence := 0, rises := [], previous := 0 } := by decide +kernel

theorem test_ring_hold_end :
    (after (.ringHoldEnd 9) (dueState (.ringHold 9) (withP9 { pickup9 with state := .ringing, hold := 1 } live))).sup.pickups[9]
      = pickup9 := by decide +kernel

/-- Section 8.6: the expiry takes a snapshot from an IDLE writer and counts a skip while WRITING. -/
theorem test_meter_interval :
    let s := after .meterIntervalExpiry (dueState .meter live)
    s.meter.writer = some { addr := 0x4000, seq := 1, turn := 0 }
      ∧ (after .meterIntervalExpiry (dueState .meter s)).meter.skips = 1 := by decide +kernel

/-- The page's last transfer lands: READY with its sequence number, and METERS. -/
theorem test_meter_page_ready :
    let s := after .meterIntervalExpiry (dueState .meter live)
    let t := after (.meterPageWriteEnd true) (s.setMeter { s.meter with writer := some { addr := 0x4000, seq := 1, turn := 14 } })
    t.readHost 0x4000 = some 1 ∧ t.readHost 0x4004 = some 1 ∧ t.readHost 0x403F = some 0 ∧ t.meter.pageSeq = 1 := by decide +kernel

theorem test_meter_page_lost :
    let s := after (.meterPageWriteEnd false) (after .meterIntervalExpiry (dueState .meter live))
    s.meter.pageSeq = 0 ∧ s.meter.hold = none ∧ s.regs.fault = 1 := by decide +kernel

theorem test_holdoff_expiry : (after .holdoffExpiry (dueState .holdoff
    (live.setCue { live.cue with counter := 1 }))).cue.counter = 0 := by decide +kernel

/-- The line of section 9.5, with two LOW samples of a press in its history. -/
def pressed : State :=
  live.setCue { CueLine.afterReset with
    enable := true, edge := .falling, filter := 4, holdoff := 500, filtered := some .high, history := [.low, .low] }

theorem test_press_is_accepted :
    let s := after (.cueLineSample .low) pressed
    s.cue.counter = 500 ∧ s.stager.lineGos = 1 ∧ (after .lineGo s).stager.stray = 1
      ∧ (after .lineGo s).stager.goSource = .line := by decide +kernel

theorem test_press_bounces :
    let s := after (.cueLineSample .low) (pressed.setCue { pressed.cue with counter := 380 })
    s.cue.bounced = 1 ∧ s.stager.lineGos = 0 ∧ s.progress.inFlight.isSome = true := by decide +kernel

/-! ### The reader: the sweep of section 10.7 -/

/-- The sweep of section 10.7 is at a slot: scan position 2 and NEXT TAG 101, after the STAGE card. -/
def sweeping (tag streak : Nat) : State :=
  live.setReader { live.reader with state := .sweeping, nextTag := tag, scanPos := 3, streak := streak }

/-- A slot's 64 bytes with a state, a kind code and a tag; notify flag set, item list at 0x8000, count 1. -/
def slotOf (state kind tag : Byte) : Vector Byte 64 := Vector.ofFn fun i : Fin 64 =>
  ([state, kind, tag, 0, 1, 1, 0, 0, 0, 0, 0, 0, 0, 0, 0, 0, 0, 0x80] : List Byte).getD i.val 0

theorem test_sweep_timer : (after .sweepTimerExpiry live).reader.state = .sweeping := by decide +kernel

/-- Slot 3, tag 99 against 101: behind, STALE_TAG; slot 4 FREE: skipped. -/
theorem test_slot_stale : completion (after (.slotRead (some (slotOf 1 2 99))) (sweeping 101 0))
      = some [[1, 0, 4, 0], [0, 0, 0], [4]]
    ∧ (after (.slotRead (some (slotOf 0 0 0))) (sweeping 101 1)).reader.streak = 2 := by decide +kernel

/-- Slot 5, tag 101: due, and the card is taken; tag 102 lies ahead. -/
theorem test_slot_due : ((after (.slotRead (some (slotOf 1 2 101))) (sweeping 101 2)).reader.hand.map fun h => (h.slot, h.addr, h.phase))
      = some (5, 0x2140, .taking)
    ∧ (after (.slotRead (some (slotOf 1 4 102))) (sweeping 101 2)).reader.hand = none := by decide +kernel

theorem test_item_list_read :
    let s := withHand (hand .stage 33 [] (.listing [] 264)) live
    let v : Vector Byte 256 := Vector.replicate 256 7
    ((after (.itemListRead (some v)) s).reader.hand.map Hand.phase) = some (.listing (List.replicate 256 7) 8)
      ∧ ((after (.itemListRead (some v)) (after (.itemListRead (some v)) s)).reader.hand.map Hand.phase)
          = some (.acting (List.replicate 264 7)) := by decide +kernel

/-- TAKEN lands at byte 0 of the slot, and the card goes to its unit; a failed write halts the reader. -/
theorem test_card_taken :
    let s := withHand (hand .go 1 [] .taking) live
    (after (.cardWriteEnd true) s).readHost 0x2080 = some 2
      ∧ ((after (.cardWriteEnd true) s).reader.hand.map Hand.phase) = some (.acting [])
      ∧ (after (.cardWriteEnd false) s).reader.state = .halted := by decide +kernel

theorem test_card_finished :
    let s := withHand (hand .go 1 [] (.completing [Transfer.mk 0x2080 [3]])) live
    let t := after (.cardWriteEnd true) s
    t.readHost 0x2080 = some 3 ∧ t.reader.nextTag = 101 ∧ t.reader.scanPos = 3 ∧ t.reader.cardsFinished = 1 := by decide +kernel

/-- R169: the progress record is written and a sweep asked meanwhile begins. -/
theorem test_sweep_end :
    let s := live.setReader { (sweeping 103 6).reader with finished := true, again := true }
    (after .sweepEnd s).progress.seq = 1 ∧ (after .sweepEnd s).reader.state = .sweeping
      ∧ (after .sweepEnd (sweeping 103 5)).reader.state = .sweeping ∧ (after .sweepEnd (sweeping 103 6)).reader.state = .idle := by
  decide +kernel

/-! ### The cards: section 3.11 and the other examples -/

/-- The first STAGE card of section 3.11, and its second. -/
def stageBytes1 : List Byte :=
  [0, 1, 0, 0, 0x00, 0x20, 240, 0] ++ [1, 2, 0, 0, 0x00, 0x20, 0xE0, 1] ++ [0, 131, 0, 0, 0x00, 0x40, 0, 0]
    ++ [131, 1, 0, 0, 0x00, 0x20, 0, 0]

/-- SET P1 to E2 12288 delay 480; SET P2 to E2 4096 delay 6000. -/
def stageBytes2 : List Byte := [1, 2, 0, 0, 0x00, 0x30, 0xE0, 1] ++ [2, 2, 0, 0, 0x00, 0x10, 0x70, 0x17]

/-- After the first card. -/
def staged1 : State := after .stage (acting .stage 4 [] stageBytes1 live)

/-- After the second. -/
def staged2 : State := after .stage (acting .stage 2 [] stageBytes2 staged1)

theorem test_stage : staged1.stager.standby.items.length = 4 ∧ completion staged2 = some [[0, 0, 0, 1], [5, 0, 1], [3]]
    ∧ staged2.stager.standby.items.getLast? = some { key := .pickupToEmitter 2 2, op := .set 4096 4800 } := by decide +kernel

/-- An item of op code 2 is BAD_FIELD, of a tail to a tail RANGE. -/
theorem test_stage_refuses : completion (after .stage (acting .stage 2 [] ([0, 1, 2, 0, 0, 0, 0, 0] ++ stageBytes2) live))
      = some [[2, 0, 2, 0], [0, 0, 0], [4]]
    ∧ completion (after .stage (acting .stage 2 [] (stageBytes2.take 8 ++ [131, 131, 0, 0, 0, 0, 0, 0]) live))
      = some [[1, 0, 3, 1], [1, 0, 1], [4]] := by decide +kernel

/-- Cue 10, fade 400, REPLACE. -/
def readied : State := after .standby (acting .standby 1 [10, 0, 0, 0, 0x90, 1, 0, 0] [] staged2)

theorem test_standby : readied.stager.standby.code = 2 ∧ completion readied = some [[0, 0, 0, 0], [5, 0, 2], [3]]
    ∧ completion (after .standby (acting .standby 1 [10, 0, 0, 0, 0x61, 0xEA, 0, 0] [] staged2)) = some [[0, 0, 0, 1], [5, 0, 2], [3]] := by
  decide +kernel

theorem test_drop_standby : (after .dropStandby (acting .dropStandby 1 [] [] readied)).stager.standby = .empty
    ∧ completion (after .dropStandby (acting .dropStandby 1 [] [] readied)) = some [[0, 0, 0, 0], [5, 0], [3]] := by decide +kernel

/-- Ceilings of 32768 for E1 and E2. -/
def ready10 : State :=
  readied.setBudget { readied.budget with ceilings := (readied.budget.ceilings.set 1 32768).set 2 32768 }

/-- After the GO card of cue 10. -/
def gone10 : State := after .go (acting .go 1 [] [] ready10)

/-- Section 3.11: the table after the GO of cue 10, and what the card returns. -/
theorem test_go : gone10.table.map (fun e => (e.key.sourceCode, e.key.destCode, e.target)) =
      [(0, 1, 8192), (131, 1, 8192), (1, 2, 12288), (2, 2, 4096), (0, 131, 16384)]
    ∧ completion gone10 = some [[0, 0, 0, 0], List.replicate 13 0, [10, 0, 1, 0, 5, 0, 5, 0], [3]]
    ∧ gone10.stager.fade = { cue := 10, remaining := 400, counting := true } := by decide +kernel

/-- Section 3.11: cue 11 by a line GO at the 150th block end; P0 to E1 dips, P2 to E2 retires, cue 10 is superseded. -/
theorem test_line_go :
    let t := (List.range 150).foldl (fun s _ => s.map Entry.advance) gone10.table
    let items : List StandbyItem :=
      [{ key := .pickupToEmitter 0 1, op := .set 8192 360 }, { key := .pickupToEmitter 2 2, op := .retire },
       { key := .pickupToEmitter 3 2, op := .set 8192 0 }]
    let s := (gone10.setTable t).setStager { gone10.stager with
      standby := .ready items { cue := 11, fade := 100, mode := .amend }, lineGos := 1 }
    let u := after .lineGo s
    u.table.map (fun e => (e.current, e.target, e.motion.code)) =
        [(3000, 8192, 2), (3000, 8192, 1), (4500, 12288, 1), (1500, 0, 4), (0, 8192, 1), (6000, 16384, 1)]
      ∧ u.stager.superseded = 1 ∧ u.stager.cueCounter = 2 ∧ u.stager.goSource = .line := by decide +kernel

/-- The state of section 2.7 with the fade ended, and E7's ceiling. -/
def budgetState : State :=
  (live.setTable (fullBudget (budget0 12288) budgetTable |>.map fun e => { e with current := e.target })).setBudget
    { budget0 12288 with clamped := fullClamp (budget0 12288) budgetTable }

/-- Section 2.7, step 2: ceiling 49152, ceiling fade 200. -/
theorem test_ceilings :
    let s := after .ceilings (acting .ceilings 1 [200, 0, 0, 0] [7, 0, 0x00, 0xC0] budgetState)
    s.table.map Entry.target = [8192, -6144, 16384, 18204, 14563] ∧ s.table.map (fun e => e.motion.code) = [1, 1, 1, 0, 0]
      ∧ completion s = some [[0, 0, 0, 0], List.replicate 13 0, [3]] := by decide +kernel

/-- Section 2.7, step 3: LOCKED, an item that leaves its ceiling passes and one that changes it fails PROTECTED. -/
theorem test_ceilings_protected :
    let s := after .ceilings (acting .ceilings 2 [100, 0, 0, 0] [7, 0, 0x00, 0x30, 8, 0, 0x20, 0x4E]
      (budgetState.setProt { budgetState.prot with state := .locked }))
    (completion s).map (fun l => l.take 1) = some [[1, 0, 11, 1]] ∧ s.budget.ceilings = budgetState.budget.ceilings := by
  decide +kernel

/-- A sounding tail is TAIL_BUSY, and keeps its design. -/
theorem test_tails :
    let s := after .tails (acting .tails 2 [] [4, 12, 2, 5] budgetState)
    s.tails.designs[4] = some 12 ∧ s.tails.designs[2] = none ∧ (completion s).map (fun l => l.take 1) = some [[1, 0, 16, 1]] := by
  decide +kernel

/-- Section 6.9: slot 6 of D12, tap 16 is written and counted as ineffective. -/
theorem test_patches :
    let s := after .patches (acting .patches 1 [] [6, 1, 12, 16, 0x58, 0x1B, 0xE8, 3] live)
    s.tails.slots[6] = some { design := 12, tap := 16, delay := 7000, gain := 1000 }
      ∧ completion s = some [[0, 0, 0, 1], [0x40, 0x40, 0, 0], [3]] := by decide +kernel

/-- P9 enabled with rise 100 (clamped to 257), the other settings factory: one value clamped, state code LIVE in bits 19:18. -/
theorem test_pickups :
    let s := after .pickups (acting .pickups 1 []
      [9, 1, 128, 1, 64, 0, 0, 0, 0x10, 0x27, 100, 0, 0, 0x10, 0, 0, 32, 0, 0xF4, 1, 0, 0, 0, 0] live)
    s.sup.pickups[9] = { Pickup.afterReset { RingGroup.factory with rise := 257 } with state := .live }
      ∧ completion s = some [[0, 0, 0, 1], [0, 0, 4, 0, 0, 0, 0, 0, 0, 0, 0, 0], [3]] := by decide +kernel

/-- TOGGLE on emitters 5, 5 and 96: the prior values 0 and 1 land, and the index at the map's size fails RANGE. -/
theorem test_mutes :
    let s := after (.mutes none) (acting .mutes 3 [2, 1] [5, 0, 5, 0, 96, 0] live)
    s.readHost 0x8001 = some 0 ∧ s.readHost 0x8003 = some 1 ∧ s.readHost 0x8005 = none
      ∧ (completion s).map (fun l => l.take 1) = some [[1, 0, 3, 2]] := by decide +kernel

/-- SET on pickups 1 and 2 with the second prior-value write failing: P1 is muted, P2 is not, LINK with detail 0. -/
theorem test_mutes_link :
    let s := after (.mutes (some 1)) (acting .mutes 2 [0, 0] [1, 0, 2, 0] live)
    s.sup.pickups[1].muteFlag = true ∧ s.sup.pickups[2].muteFlag = false
      ∧ completion s = some [[1, 0, 17, 0], 2 :: List.replicate 11 0, [4]] := by decide +kernel

/-- Section 8.6: BUSY while a page is written; otherwise the card becomes a long card. -/
theorem test_snapshot :
    let s := after .snapshot (acting .snapshot 1 [1] [] live)
    s.reader.snapCard = some { addr := 0x2080, notify := true, outcome := none } ∧ s.reader.nextTag = 101
      ∧ (completion (after .snapshot (acting .snapshot 1 [0] [] s))).map (fun l => l.take 1) = some [[0, 0, 5, 0]] := by
  decide +kernel

/-- R150: a SNAPSHOT card that finds an expiry due comes before it, which then counts a skip; after the expiry's own command the card
is BUSY. -/
theorem test_snapshot_beside_an_expiry :
    let s := dueState .meter (acting .snapshot 1 [0] [] live)
    let cardFirst := after .meterIntervalExpiry (after .snapshot s)
    let expiryFirst := after .snapshot (after .meterIntervalExpiry s)
    cardFirst.meter.skips = 1 ∧ (cardFirst.meter.hold.map Hold.source) = some .card
      ∧ expiryFirst.meter.skips = 0 ∧ (expiryFirst.meter.hold.map Hold.source) = some .interval
      ∧ (completion expiryFirst).map (fun l => l.take 1) = some [[0, 0, 5, 0]] := by decide +kernel

theorem test_cue_line_card :
    let s := after .cueLine (acting .cueLine 1 [1, 1, 4, 0, 0x11, 0x27] [] live)
    s.cue = { CueLine.afterReset with enable := true, edge := .falling, filter := 4, holdoff := 10000 }
      ∧ completion s = some [[0, 0, 0, 1], [1, 1, 4, 2, 0x10, 0x27], [0, 0, 0, 0], [3]] := by decide +kernel

/-! ### Protection, store, reports, long cards, link port writes: section 12.8 and others -/

/-- A code of 32 equal bytes. -/
def codeOf (b : Byte) : List Byte := List.replicate 32 b

/-- A PROTECT card's arguments: action flags and code. -/
def protArgs (flags : Byte) (code : Byte) : List Byte := [flags, 0, 0, 0, 0, 0, 0, 0] ++ codeOf code

/-- Code A set in NONE: LOCKED. -/
def locked : State := after .setCode (acting .protect 1 (protArgs 1 0xA) [] live)

theorem test_set_code : locked.prot.state = .locked ∧ locked.prot.code = some (Vector.replicate 32 0xA)
    ∧ completion (after .setCode (acting .protect 1 (protArgs 1 0xB) [] locked)) = some [[0, 0, 11, 0], [1], [4]] := by decide +kernel

theorem test_unlock :
    let s := after .unlock (acting .protect 1 (protArgs 2 0xB) [] locked)
    let t := after .unlock (acting .protect 1 (protArgs 2 0xA) [] s)
    completion s = some [[0, 0, 12, 0], [1], [4]] ∧ s.prot.wrong = 1 ∧ t.prot.state = .opened ∧ t.prot.wrong = 0 := by decide +kernel

theorem test_locked_out :
    completion (after .unlock (acting .protect 1 (protArgs 2 0xA) [] (locked.setProt { locked.prot with wrong := 5 })))
      = some [[0, 0, 13, 0], [1], [4]] := by decide +kernel

theorem test_relock : completion (after .relock (acting .protect 1 (protArgs 4 0) [] live)) = some [[0, 0, 14, 0], [0], [4]]
    ∧ (after .relock (acting .protect 1 (protArgs 4 0) [] (locked.setProt { locked.prot with state := .opened }))).prot.state
      = .locked := by decide +kernel

theorem test_clear_code : (after .clearCode (acting .protect 1 (protArgs 8 0xA) [] locked)).prot
    = { state := .none, code := none, wrong := 0, fuseBlown := false } := by decide +kernel

theorem test_fix : completion (after .fix (acting .protect 1 (protArgs 16 0) [] locked)) = some [[0, 0, 11, 0], [1], [4]]
    ∧ completion (after .fix (acting .protect 1 (protArgs 17 0) [] live)) = some [[0, 0, 2, 0], [0], [4]] := by decide +kernel

theorem test_fuse_blow :
    let s := after .fix (acting .protect 1 (protArgs 16 0) [] live)
    (after (.fuseBlowEnd true) s).prot.fuseBlown = true ∧ (after (.fuseBlowEnd true) s).prot.state = .isFixed
      ∧ completion (after (.fuseBlowEnd false) s) = some [[0, 0, 17, 0], [0], [4]] := by decide +kernel

/-- Section 12.8: the STORE card taken with sequence number 6. -/
def storing : State := after .store (acting .store 1 [] [] live)

theorem test_store : storing.store.state.code = 2 ∧ storing.reader.storeCard.isSome = true
    ∧ completion (after .store (acting .store 1 [] [] storing)) = some [[0, 0, 5, 0], [6, 0, 0, 0], [4]] := by decide +kernel

/-- Section 12.8: the write goes through its steps; a verify without an answer begins the erase of the area, which is still WRITING
(R191), and whose end leaves the count at 6 and the card LINK. -/
theorem test_store_write :
    let s := after .storeEraseEnd storing
    let t := after (.storeVerifyEnd false) (after (.storeProgramEnd true) s)
    let u := after .storeEraseEnd t
    s.store.state.code = 2 ∧ s.store.flash = erasedFlash ∧ t.store.state.code = 2 ∧ t.store.flash = erasedFlash
      ∧ u.store = { state := .idle, seq := 6, flash := erasedFlash }
      ∧ ((u.reader.storeCard.bind LongCard.outcome).map Completion.result) = some .link := by decide +kernel

/-- Section 12.8: the verify matches, and the count becomes that of the image. -/
theorem test_store_verify (i : Image) :
    (after (.storeVerifyEnd true) (live.setStore { state := .writing .verifying i, seq := 6, flash := imageBytes i })).store
      = { state := .idle, seq := i.seq, flash := imageBytes i } := by
  simp [after, stateOf, exec, execStoreVerifyEnd, verifyEnds, flashRead, verifyMatches, endLong,
    Reader.longCard, live, Reader.afterReset]

/-- R189: the check value of the CRC of nine ASCII digits. -/
theorem test_crc : crc32 [0x31, 0x32, 0x33, 0x34, 0x35, 0x36, 0x37, 0x38, 0x39] = 0xCBF43926 := by decide +kernel

/-- Section 1.7, step 4: start ordinal 4 of 5 entries copies the last. -/
theorem test_report :
    let s := after .report (acting .report 4 [4, 0] [] (budgetState.setStager { budgetState.stager with cueCounter := 41 }))
    ((s.reader.hand.map Hand.phase).map fun p => match p with
        | .reporting rest n w total cue => (rest.map fun e => e.key.sourceCode, n, w, total, cue)
        | _ => ([], 0, 0, 0, 0)) = some ([5], 0, 1, 5, 41)
      ∧ completion (after (.reportTransferEnd true) s) = some [[0, 0, 0, 0], [1, 0, 5, 0, 41, 0], [3]] := by decide +kernel

/-- A report entry's bytes: P5 to T2 at 16000, target and current 14563, SETTLED, last cue 1. -/
theorem test_report_entry :
    let s := after .report (acting .report 4 [4, 0] [] budgetState)
    (List.range 16).map (fun i => (after (.reportTransferEnd true) s).readHost (0x8000 + i))
      = [5, 130, 0, 0, 0x80, 0x3E, 0xE3, 0x38, 0xE3, 0x38, 0, 0, 0, 0, 1, 0].map some := by decide +kernel

/-- A long card's completion lands, or fails at its first transfer. -/
theorem test_long_card :
    let s := live.setReader { live.reader with
      storeCard := some { addr := 0x2000, notify := false, outcome := some (Completion.mk .ok 0 0 [(24, [7, 0, 0, 0])]) } }
    (after (.longCardCompletion .store none) s).readHost 0x2000 = some 3
      ∧ (after (.longCardCompletion .store none) s).reader.cardsFinished = 1
      ∧ (after (.longCardCompletion .store (some 0)) s).regs.fault = 1
      ∧ (after (.longCardCompletion .store (some 0)) s).reader.storeCard = none := by decide +kernel

/-- R181: of two completions in flight, the CARD notice of the one that ends first waits for the other, and then lands. -/
theorem test_card_notice_waits_for_long_card :
    let card := LongCard.mk 0x2000 true (some (Completion.mk .ok 0 0 []))
    let s := fourVectors.setReader { fourVectors.reader with storeCard := some card, snapCard := some { card with addr := 0x2040 } }
    let t := after (.progressWriteEnd true) (after (.longCardCompletion .store none) s)
    t.notice.handed.map (fun w => w.raising.longs) = some [.snapshot]
      ∧ (after (.noticeWriteEnd true) t).readHost 0x3000 = none
      ∧ (after (.noticeWriteEnd true) (after (.longCardCompletion .snapshot (some 0)) t)).readHost 0x3001 = some 4 := by decide +kernel

/-- The progress record lands at byte 64 of the root: RUNNING, IDLE, NEXT TAG 100, record sequence 1. -/
theorem test_progress_record :
    let s := after (.progressWriteEnd true) (progressOccasion live)
    (List.range 4).map (fun i => s.readHost (0x1040 + i)) = [some 3, some 1, some 100, some 0]
      ∧ s.readHost (0x1000 + 108) = some 1 ∧ s.progress.inFlight = none := by decide +kernel

theorem test_notice_write :
    let s := raise .supervisor .pickup (fourVectors.setNotice { fourVectors.notice with mask := 0 })
    (List.range 4).map (fun i => (after (.noticeWriteEnd true) s).readHost (0x3000 + i)) = [some 3, some 4, some 0, some 0]
      ∧ (after (.noticeWriteEnd false) s).regs.fault = 1 := by decide +kernel

/-! ### Witnesses: the machine as a whole. Each shows concrete operands and a state that meet an obligation's hypotheses. -/

theorem settled_live : Settled live := by decide +kernel

theorem witness_StepRunsFrontCommand : step (live.withQueue [.sweepNow, .clockLoss]) = exec .sweepNow (live.withQueue [.clockLoss]) := rfl

theorem witness_CommandsActOnSettledState : endOf .sweepNow = none ∧ endOf .fadeEnd = some .fade
    ∧ .fade ∈ (dueState .fade live).due ∧ .fade ∉ live.due
    ∧ endOf .snapshot = none ∧ .meter ∉ (dueState .fade live).due
    ∧ (dueState .fade live).due = .fade :: [] ∧ live.due = [] := by decide +kernel

/-- A queue with a card's write end and the end of a sweep. -/
def queued (s : State) : State := s.withQueue [.cardWriteEnd true, .sweepEnd]

theorem queued_steps (s : State) : ∃ t, step (queued s) = .next t := ⟨_, rfl⟩

theorem witness_HostMemoryKeepsCanonicalForm :
    MemInv (queued (land (Transfer.mk 0x2080 [2, 3]) (withHand (hand .go 1 [] .taking) live))) := by decide +kernel

theorem witness_PathTableStaysWithinLimits : TableInv (queued (readied.setTable budgetState.table)) where
  ordered := by decide +kernel
  total := by decide +kernel
  perDest := fun _ => Nat.le_trans List.countP_le_length (by decide +kernel)
  ranges := by
    have h : ∀ e ∈ budgetState.table, isGain e.requested ∧ e.delay ≤ 4800 ∧ e.motion = .settled := by decide +kernel
    intro e he
    obtain ⟨a, b, c⟩ := h e he
    exact ⟨a, b, by rw [c]; trivial⟩
  standbyTotal := by decide +kernel
  standbyKeys := by decide +kernel
  standbyRanges := by
    have h : ∀ i ∈ readied.stager.standby.items, match i.op with | .set g d => isGain g ∧ d ≤ 4800 | .retire => True := by
      rw [show readied.stager.standby.items =
        [{ key := .pickupToEmitter 0 1, op := .set 8192 240 }, { key := .pickupToEmitter 1 2, op := .set 12288 480 },
         { key := .pickupToTail 0 3, op := .set 16384 0 }, { key := .tailToEmitter 3 1, op := .set 8192 0 },
         { key := .pickupToEmitter 2 2, op := .set 4096 4800 }] by decide +kernel]
      simp [isGain]
    exact h

theorem witness_BudgetLawHoldsAfterEveryStep : BudgetInv (queued budgetState) where
  idle := by decide +kernel
  empty := by decide +kernel
  tails := by decide +kernel
  emitters := by decide +kernel

theorem witness_TrimsStayAboveTheirFloors : TrimInv (queued (withP9 { pickup9 with trim := 32 } live)) where
  idle := by decide +kernel
  fresh := by decide +kernel
  rings := by decide +kernel
  trims := by decide +kernel

theorem witness_FactorsStayInRange : FactorInv (queued (withP9 { pickup9 with muteGain := 224, floor := 8388607, limit := 1 } ready10)) where
  pickups := by decide +kernel
  emitters := by decide +kernel
  silence := by decide +kernel
  ceilings := by decide +kernel

theorem witness_RunControlStaysConsistent : RunInv (queued (withHand (hand .go 1 [] .taking) live)) where
  loading := by decide +kernel
  stopped := by decide +kernel
  running := by decide +kernel
  reader := by decide +kernel
  hand := by decide +kernel
  root := by decide +kernel

theorem witness_NoticeUnitStaysConsistent : NoticeInv (queued (raise .supervisor .ring (raise .mix .clip (raise .stager .cue fourVectors)))) where
  disabled := by decide +kernel
  room := by decide +kernel
  handed := by decide +kernel
  waits := by decide +kernel

theorem witness_ProtectionStaysConsistent : ProtInv (queued locked) ∧ (queued (locked.setProt { locked.prot with fuseBlown := true })).prot.fuseBlown = true :=
  ⟨{ none := by decide +kernel, held := by decide +kernel, wrong := by decide +kernel, fuse := by decide +kernel }, rfl⟩

theorem witness_ProtectedItemsChangeOnlyByLoad : (locked.prot.state = .locked ∨ locked.prot.state = .isFixed)
    ∧ (∀ a, Instr.ceilings ≠ .storeLoadEnd a) ∧ ∃ t, exec .ceilings (acting .ceilings 1 [] [7, 0, 0, 1] locked) = .next t :=
  ⟨by decide +kernel, nofun, _, rfl⟩

theorem witness_FaultBitsAreSticky : Instr.sweepNow ≠ .powerOnReset ∧ (∀ w, Instr.sweepNow ≠ .faultClear w)
    ∧ (∀ o a w, Instr.sweepNow ≠ .registerWrite o a w) ∧ (markFault .clock live).hasFault .clock = true
    ∧ ∃ t, exec .sweepNow (markFault .clock live) = .next t :=
  ⟨nofun, nofun, nofun, by decide +kernel, _, rfl⟩

theorem witness_OnlyEndsOfWritesReachHostMemory : ∃ t, exec .sweepNow (land (Transfer.mk 0x2080 [2, 3]) live) = .next t := ⟨_, rfl⟩

theorem witness_EngineMovesOnlyAsListed : Settled live ∧ (∃ t, exec .runStop live = .next t)
    ∧ ∃ t, exec (.registerWrite 4 .word 2) live = .next t := ⟨settled_live, ⟨_, rfl⟩, _, rfl⟩

/-! ### Witnesses: gains, budget, store image -/

theorem witness_EffectiveGainNeverExceedsCurrent : (87 ≤ 256 ∧ 256 ≤ 256) ∧ ((0 : Nat) = 0 ∨ (256 : Nat) = 0) ∧ 0 ≤ 256 := by decide

theorem witness_BudgetStagesGiveTargets :
    (∃ e ∈ fullBudget (budget0 12288) budgetTable, destTail e.key = some 2)
      ∧ ∃ e ∈ fullBudget (budget0 12288) budgetTable, destEmitter e.key = some 7 := by decide +kernel

/-- An image with fields at the ends of their ranges. -/
def image0 : Image :=
  { seq := 4294967295, state := .isFixed, code := Vector.replicate 32 255, ceilings := Vector.replicate 96 65535,
    slots := #v[none, some { design := 39, tap := 255, delay := 65535, gain := -32768 },
      some { design := 0, tap := 0, delay := 1, gain := 32767 }, none, none, none, none, none],
    rings := Vector.replicate 32 { rise := 1023, ringFloor := 268435455, cut := 255, trimFloor := 256, hold := 60000, recovery := 64 } }

theorem witness_StoreImageReadsBack : image0.seq < 4294967296 ∧ image0.state ≠ .opened ∧ (∀ e : Fin 96, image0.ceilings[e] < 65536)
    ∧ (∀ k : Fin 8, ∀ p, image0.slots[k] = some p → p.tap < 256 ∧ 1 ≤ p.delay ∧ p.delay < 65536 ∧ isGain p.gain)
    ∧ ∀ p : Fin 32, image0.rings[p].inRange = true := by
  refine ⟨by decide, by decide, by decide +kernel, ?_, by decide +kernel⟩
  intro k p h
  fin_cases k <;> simp_all [image0, isGain] <;> subst h <;> decide

/-- A function of a number, which is worked out first. -/
def seqNat (n : Nat) (f : Nat → Nat) : Nat :=
  match n with
  | 0 => f 0
  | m + 1 => f (m + 1)

theorem seqNat_eq (n : Nat) (f : Nat → Nat) : seqNat n f = f n := by cases n <;> rfl

/-- The fold of the CRC with its value worked out at each byte, so that a long list is evaluated without nesting. -/
def crcFold : List Byte → Nat → Nat
  | [], c => c
  | b :: bs, c => seqNat (crcByte c b) (crcFold bs)

theorem crcFold_eq (bs : List Byte) (c : Nat) : bs.foldl crcByte c = crcFold bs c := by
  induction bs generalizing c with
  | nil => rfl
  | cons b bs ih => rw [crcFold, seqNat_eq, List.foldl_cons, ih]

theorem crc32_eq (bs : List Byte) : crc32 bs = crcFold bs 0xFFFFFFFF ^^^ 0xFFFFFFFF := by rw [crc32, crcFold_eq]

/-- `image0` in bytes, with a CRC. -/
def image0With (crc : Nat) : List Byte := imageBody image0 ++ leBytes 4 crc

theorem image0With_crc (k : Nat) : crc32 ((image0With k).take 677) = 3534663471 := by
  rw [image0With, List.take_left' (by decide +kernel), crc32_eq]
  decide +kernel

/-- With its CRC, by zlib's crc32, the image is good; with another it is bad, and with the state byte 2 (R189). -/
theorem witness_StoreImageReadsBack_good : (imageOfBytes (image0With 3534663471)).isSome = true
    ∧ imageOfBytes (image0With 3534663470) = none ∧ imageOfBytes ((image0With 3534663471).set 4 2) = none := by
  refine ⟨?_, ?_, by decide +kernel⟩
  · rw [imageOfBytes, image0With_crc]
    decide +kernel
  · rw [imageOfBytes, image0With_crc]
    decide +kernel

/-! ### Witnesses: resets, run control, registers -/

theorem witness_ResetsSetEveryUnit : Settled (raise .mix .clip (fourVectors))
    ∧ Settled (raise .stager .cue (progressOccasion (fourVectors.setNotice { fourVectors.notice with mask := 0 }))) := by decide +kernel

theorem witness_LoadInstallsImageOrDefaults : Settled State.reset ∧ State.reset.engine.state = .loading
    ∧ Settled live ∧ live.engine.state ≠ .loading := by decide +kernel

/-- STOPPING with a card in hand. -/
def stopping : State := (withHand (hand .go 1 [] .taking) live).setEngine { live.engine with state := .stopping, run := false }

theorem witness_RunFieldWrites : (Settled live ∧ live.engine.state = .running) ∧ (Settled State.reset ∧ State.reset.engine.state = .loading)
    ∧ Settled stopping ∧ (stopping.engine.state = .stopped ∨ stopping.engine.state = .starting ∨ stopping.engine.state = .stopping)
    ∧ (let s := sweeping 101 3
       Settled s ∧ s.engine.state = .running ∧ s.reader.state = .sweeping ∧ s.reader.hand = none) := by
  decide +kernel

/-- STOPPING at its end. -/
def stopEnd : State := live.setEngine { live.engine with state := .stopping } |>.setReader Reader.afterReset

/-- STOPPING at its last block end but for it: 48 samples taken, one emitter at 32, a fade at its last block. -/
def lastStop : State :=
  let t := (live.setEngine { live.engine with state := .stopping }).setReader Reader.afterReset
  withBlock 48 ((t.setSup { t.sup with emitterGain := (Vector.replicate 96 0).set 7 32 }).setStager
    { t.stager with fade := { cue := 5, remaining := 1, counting := true } })

theorem witness_StoppingEndsInStoppedOrStarting :
    (stopEnd.due = [] ∧ stopEnd.engine.state = .stopping
      ∧ stopEnd.reader.state = .off ∧ (stopEnd.mix.clock = false ∨ ∀ e : Fin 96, stopEnd.sup.emitterGain[e] = 0))
    ∧ (Settled lastStop ∧ lastStop.engine.state = .stopping ∧ lastStop.reader.state = .off ∧ lastStop.mix.clock = true
      ∧ (lastStop.mix.block.map Block.index) = some 48 ∧ ∀ e : Fin 96, lastStop.sup.emitterGain[e] ≤ 32) := by decide +kernel

/-- A fade that ends with STOPPING: its record shows STOPPING, and the engine is then STOPPED (R60, R87). -/
theorem test_last_stop :
    let t := after .blockEnd lastStop
    t.due = [.fade] ∧ (after .stoppingEnd t).engine.state = (if lastStop.engine.run then .starting else .stopped)
      ∧ (after .stoppingEnd t).progress.inFlight.map (fun x => x.bytes.head?) = some (some 4) := by decide +kernel

/-- STARTING, with the root read in flight. -/
def starting : State := (live.setEngine { live.engine with state := .starting }).setReader Reader.afterReset

theorem witness_RootReadEndsStarting : Settled starting ∧ starting.engine.state = .starting
    ∧ Root.ofRead starting.engine.startAddr (some rootBytes) = some root0 := by decide +kernel

theorem witness_ControlFieldWrites : Settled live ∧ Settled State.reset ∧ live.reader.state = .idle := by decide +kernel

theorem witness_FaultAndMaskWrites : Settled (markFault .lane fourVectors) := by decide +kernel

theorem witness_RegisterWindow : Settled fourVectors ∧ AccessWidth.byte ≠ .word ∧ 0x1C ∉ [0x00, 0x04, 0x08, 0x0C, 0x10, 0x14, 0x18]
    ∧ (31 < 32 ∧ 31 ≠ 0 ∧ 31 ≠ 2 ∧ 31 ≠ 4 ∧ 31 ≠ 5) := by decide +kernel

/-! ### Witnesses: notices and the progress record -/

/-- A queue of 16 posted writes, with one handed to the link port. -/
def fullQueue : State :=
  fourVectors.setNotice { fourVectors.notice with
    queue := List.replicate 16 { addr := 0x3000, data := 0x400, raising := { kind := .card, after := none, longs := [] } }
    handed := some { addr := 0x3000, data := 0x400, raising := { kind := .card, after := none, longs := [] } } }

/-- Vectors 0, 2 and 3 pending, vector 2 masked, and the link port idle. -/
def idlePort : NoticeUnit :=
  let x : Raising := { kind := .ring, after := none, longs := [] }
  { fourVectors.notice with mask := 4, pending := #v[some x, none, some x, some x, none, none, none, none] }

/-- The same with a write in hand and 15 in the queue. -/
def almostFull : NoticeUnit :=
  let w : NoticeWrite := { addr := 0x3000, data := 0x400, raising := { kind := .card, after := none, longs := [] } }
  { idlePort with queue := List.replicate 15 w, handed := some w }

/-- What goes out of an idle port, and where the queue has room for one, the lowest vector only (R180, R181). -/
theorem test_flush_posts_lowest :
    ((idlePort.flush (some root0)).handed.map (·.data), (idlePort.flush (some root0)).queue.map (·.data),
        (idlePort.flush (some root0)).pending.toList.map (·.isSome))
      = (some 0x400, [0x403], [false, false, true, false, false, false, false, false])
      ∧ ((almostFull.flush (some root0)).queue.length, (almostFull.flush (some root0)).pending.toList.map (·.isSome))
        = (16, [false, false, true, true, false, false, false, false]) := by decide +kernel

theorem witness_RaisingAndPending :
    live.notice.enable = false
      ∧ (let s := raise .supervisor .ring fourVectors
         s.notice.enable = true ∧ s.notice.pending[vectorOf s.notice.vectorCode .ring].isSome = true)
      ∧ (fourVectors.notice.pending[vectorOf 2 .ring] = none ∧ fourVectors.notice.mask.getLsbD (vectorOf 2 .ring) = true)
      ∧ (fullQueue.notice.enable = true ∧ fullQueue.notice.pending[vectorOf 2 .cue] = none ∧ 16 ≤ fullQueue.notice.queue.length)
      ∧ ((fourVectors.setRoot none).root = none ∧ fourVectors.notice.enable = true)
      ∧ (fourVectors.root = some root0 ∧ fourVectors.notice.pending[vectorOf 2 .cue] = none
          ∧ fourVectors.notice.mask.getLsbD (vectorOf 2 .cue) = false ∧ fourVectors.notice.queue.length < 16)
      ∧ (idlePort.enable = true ∧ idlePort.handed = none ∧ idlePort.queue = [])
      ∧ (almostFull.enable = true ∧ almostFull.handed.isSome = true ∧ almostFull.queue.length = 15) := by
  decide +kernel

/-- A STORE card and a SNAPSHOT card whose completions are being written. -/
def longs : State :=
  live.setReader { live.reader with
    storeCard := some { addr := 0x2000, notify := true, outcome := some (Completion.mk .ok 0 0 [(24, [7, 0, 0, 0])]) }
    snapCard := some { addr := 0x2040, notify := false, outcome := some (Completion.mk .link 0 0 []) } }

/-- A CUE notice handed over that follows the progress record write in flight, and a CARD notice that follows two completions. -/
def handedBehindRecord : State := raise .stager .cue (progressOccasion fourVectors)
def handedBehindLongs : State :=
  raise .linkPort .card ((fourVectors.setReader longs.reader).setNotice { fourVectors.notice with mask := 0 })

theorem witness_NoticeWriteEnds_waits :
    (Settled handedBehindRecord ∧ handedBehindRecord.notice.handed.bind (fun w => w.raising.after) = some handedBehindRecord.progress.seq
      ∧ handedBehindRecord.progress.inFlight.isSome = true)
    ∧ Settled handedBehindLongs ∧ handedBehindLongs.notice.handed.map (fun w => w.raising.longs) = some [.store, .snapshot]
      ∧ (handedBehindLongs.reader.storeCard.bind LongCard.outcome).isSome = true
      ∧ (handedBehindLongs.reader.snapCard.bind LongCard.outcome).isSome = true := by decide +kernel

/-- A CUE write handed to the link port, and a FAULT write. -/
def handedCue : State := raise .supervisor .cue fourVectors

theorem witness_NoticeWriteEnds :
    (let w : NoticeWrite := { addr := 0x3000, data := 0x401, raising := { kind := .cue, after := none, longs := [] } }
     Settled handedCue ∧ handedCue.notice.handed = some w ∧ w.raising.after ≠ some handedCue.progress.seq ∧ w.raising.longs = [])
      ∧ (markFault .memory handedCue).hasFault .memory = true
      ∧ (raise .mix .fault (fourVectors.setNotice { fourVectors.notice with mask := 0 })).notice.handed.map (fun w => w.raising.kind) = some .fault := by
  decide +kernel

theorem witness_ProgressRecordWrites : (Settled (progressOccasion live) ∧ (progressOccasion live).progress.inFlight.isSome = true)
    ∧ State.reset.root = none ∧ (progressOccasion live).root = some root0 ∧ live.root = some root0 ∧ live.progress.inFlight = none
    ∧ (2 ^ 64 - 64) + (progressBytes live 1).length ≤ 2 ^ 64 := by
  decide +kernel

/-! ### Witnesses: clock, lanes, samples, blocks, movements -/

theorem witness_ClockLossAbandonsTheBlock : Settled live ∧ live.mix.clock = true ∧ Settled State.reset ∧ State.reset.mix.clock = false
    ∧ Settled stopping ∧ stopping.engine.state = .stopping := by decide +kernel

theorem witness_ClockReturnClearsHistories : Settled (after .clockLoss live) ∧ (after .clockLoss live).mix.clock = false := by decide +kernel

theorem witness_LanesLockAndLose :
    (Settled (laneReady live) ∧ (laneReady live).mix.clock = true ∧ (laneReady live).engine.state ≠ .loading
      ∧ (laneReady live).mix.locks[(0 : Fin 4)] = false ∧ 48 ≤ (laneReady live).mix.lockRun[(0 : Fin 4)])
      ∧ (laneReady live).mix.lockRun[(1 : Fin 4)] < 48
      ∧ Settled (after (.laneLock 0) (laneReady live)) ∧ (after (.laneLock 0) (laneReady live)).mix.locks[(0 : Fin 4)] = true
      ∧ (∃ l : Fin 4, ((laneReady live).mix.locks[l] = true ∨ 48 ≤ (laneReady live).mix.lockRun[l]) ∧ (0#4).getLsbD l = false)
      ∧ ¬ ∃ l : Fin 4, ((laneReady live).mix.locks[l] = true ∨ 48 ≤ (laneReady live).mix.lockRun[l]) ∧ (1#4).getLsbD l = false := by
  decide +kernel

theorem witness_SampleFormsTailsAndEmitters :
    Settled (withBlock 47 live) ∧ (withBlock 47 live).mix.clock = true ∧ (withBlock 47 live).engine.state ≠ .loading
      ∧ ((withBlock 47 live).mix.block.map Block.index) = some 47 ∧ 4799 < 4800 ∧ 65534 < 65535
      ∧ (live.mix.block = none ∧ (openBlock live).mix.block.isSome = true)
      ∧ (let s := live.setMix { live.mix with opening := true }
         s.due = [] ∧ s.mix.opening = true ∧ stoppingDone s = false)
      ∧ ((95 : Fin 96).val = 16 * (5 : Fin 6).val + (15 : Fin 16).val)
      ∧ (let slots : Vector (Option Patch) 8 := (Vector.replicate 8 none).set 6 (some { design := 12, tap := 0, delay := 700, gain := 5 })
         0 < tapCount 12 ∧ slots[(6 : Fin 8)] = some { design := 12, tap := 0, delay := 700, gain := 5 }
          ∧ ∀ j : Fin 8, j < 6 → slots[j] = none) := by decide +kernel

theorem witness_BlockEndCountsInEveryUnit :
    (Settled (withBlock 48 live) ∧ (withBlock 48 live).mix.clock = true ∧ (withBlock 48 live).engine.state = .running
      ∧ ((withBlock 48 live).mix.block.map Block.index) = some 48)
      ∧ Settled (withBlock 48 stopping) ∧ (withBlock 48 stopping).engine.state = .stopping := by decide +kernel

theorem witness_PickupActsByState : (Pickup.afterReset .factory).state = .disabled
    ∧ Pickup.state { pickup9 with state := .silent } = .silent ∧ (pickup9.state = .live ∨ pickup9.state = .ringing) := by decide

theorem witness_MovementEnds :
    .ramp (.pickupToEmitter 0 1) ∈ (dueState (.ramp (.pickupToEmitter 0 1)) live).due
      ∧ .removal (.pickupToEmitter 0 1) ∈ (dueState (.removal (.pickupToEmitter 0 1)) live).due
      ∧ .dipLow (.pickupToEmitter 0 1) ∈ (dueState (.dipLow (.pickupToEmitter 0 1)) live).due
      ∧ .dipUp (.pickupToEmitter 0 1) ∈ (dueState (.dipUp (.pickupToEmitter 0 1)) live).due
      ∧ (gone10.table.Pairwise fun a b => a.key.rank < b.key.rank) ∧ hasKey gone10.table (.pickupToEmitter 0 1) = true := by
  decide +kernel

theorem witness_OtherBlockEndEnds :
    .fade ∈ (dueState .fade live).due ∧ .silence 9 ∈ (dueState (.silence 9) live).due ∧ .ringHold 9 ∈ (dueState (.ringHold 9) live).due
      ∧ .meter ∈ (dueState .meter live).due ∧ .holdoff ∈ (dueState .holdoff live).due ∧ live.meter.writer = none
      ∧ live.root = some root0 ∧ (after .meterIntervalExpiry (dueState .meter live)).meter.writer.isSome = true := by decide +kernel

theorem witness_RampStaysBetweenAndLandsOnTime : (1 ≤ 1 ∧ 0 < 1) ∧ (1 ≤ 7 ∧ 6 < 7) ∧ (1 ≤ 60000 ∧ 59999 < 60000) := by decide

theorem witness_DipSwitchesDelayAtZero : (2 ≤ 2 ∧ 0 < 2 / 2 ∧ 0 < 2 - 2 / 2) ∧ (2 ≤ 5 ∧ 1 < 5 / 2 ∧ 2 < 5 - 5 / 2) := by decide

/-! ### Witnesses: scenes, budget, tail and pickup cards -/

theorem witness_StageCardStagesItems :
    (readied.stager.standby.items.Pairwise fun a b => a.key ≠ b.key)
      ∧ (Settled (acting .stage 4 [] stageBytes1 live)
        ∧ (acting .stage 4 [] stageBytes1 live).actingOn .stage = some (hand .stage 4 [] (.acting stageBytes1), stageBytes1)
        ∧ live.stager.standby = .empty)
      ∧ Settled (acting .stage 4 [] stageBytes1 readied)
      ∧ readied.stager.standby = .ready readied.stager.standby.items { cue := 10, fade := 400, mode := .replace } := by decide +kernel

theorem witness_StandbyCardFixesHeader : Settled (acting .standby 1 [10, 0, 0, 0, 0x90, 1] [] staged2)
    ∧ (acting .standby 1 [10, 0, 0, 0, 0x90, 1] [] staged2).actingOn .standby
      = some (hand .standby 1 [10, 0, 0, 0, 0x90, 1] (.acting []), []) := by decide +kernel

theorem witness_DropStandbyEmptiesTheList : Settled (acting .dropStandby 1 [] [] readied)
    ∧ (acting .dropStandby 1 [] [] readied).actingOn .dropStandby = some (hand .dropStandby 1 [] (.acting []), []) := by decide +kernel

/-- 24 SET items into one emitter, and one more. -/
def crowd : List StandbyItem :=
  ((List.finRange 25).map fun i : Fin 25 => StandbyItem.mk (.pickupToEmitter ⟨i.val, by omega⟩ 4) (.set 1 0))

theorem witness_GoExecutesOrIsRefused :
    (Settled (acting .go 1 [] [] ready10) ∧ (acting .go 1 [] [] ready10).actingOn .go = some (hand .go 1 [] (.acting []), []))
      ∧ (let s := live.setStager { live.stager with lineGos := 1 }
         0 < s.stager.lineGos ∧ s.engine.state ≠ .loading ∧ Settled s ∧ s.stager.standby = .empty)
      ∧ (ready10.stager.standby = .ready ready10.stager.standby.items { cue := 10, fade := 400, mode := .replace }
        ∧ capacityCheck ready10.table ready10.stager.standby.items = none)
      ∧ capacityCheck [] crowd = some (.destFull, 4) ∧ capacityCheck [] (crowd.take 24) = none
      ∧ (newKeys [] crowd)[24]? = some (.pickupToEmitter 24 4) ∧ (newKeys [] crowd)[23]? = some (.pickupToEmitter 23 4) := by
  decide +kernel

theorem witness_MergeSetsAndRetires : (gone10.table.Pairwise fun x y => x.key.rank < y.key.rank)
    ∧ (readied.stager.standby.items.Pairwise fun x y => x.key ≠ y.key) ∧ 0 < 400 ∧ 1 ≤ 1
    ∧ Header.fade { cue := 12, fade := 0, mode := .amend } = 0
    ∧ (mergedTable ready10.budget gone10.table (readied.stager.standby.items.drop 1) { cue := 12, fade := 400, mode := .replace }).map
        (fun e => e.motion.code) = [4, 1, 1, 1, 1] := by decide +kernel

theorem witness_CutsLeaveNothingMoving :
    mergedTable ready10.budget [] readied.stager.standby.items { cue := 10, fade := 0, mode := .replace } ≠ []
      ∧ (readied.stager.standby.items.Pairwise fun x y => x.key ≠ y.key)
      ∧ ∃ e ∈ recomputedTable (budget0 16384) (fun _ => true) 0 budgetState.table, destEmitter e.key = some 7 := by decide +kernel

theorem witness_CeilingsCardRecomputesListed : 96 ≤ (CeilingItem.mk 96 5).emitter ∧ (CeilingItem.mk 95 5).emitter = (95 : Fin 96).val
    ∧ Settled (acting .ceilings 1 [200] [7, 0, 0, 0xC0] budgetState)
    ∧ (acting .ceilings 1 [200] [7, 0, 0, 0xC0] budgetState).actingOn .ceilings
      = some (hand .ceilings 1 [200] (.acting [7, 0, 0, 0xC0]), [7, 0, 0, 0xC0]) := by decide +kernel

theorem witness_TailsAndPatchesCards :
    (16 ≤ (TailItem.mk 16 0).tail ∧ 40 ≤ (TailItem.mk 0 40).design ∧ (TailItem.mk 0 40).design ≠ 255)
      ∧ ((TailItem.mk 15 255).tail = (15 : Fin 16).val ∧ designCode none = (TailItem.mk 15 255).design
        ∧ designCode (some 39) = (TailItem.mk 15 39).design)
      ∧ 1 < (PatchItem.mk 0 2 0 0 1 0).action
      ∧ ((PatchItem.mk 8 1 0 0 1 0).action ≤ 1 ∧ 8 ≤ (PatchItem.mk 8 1 0 0 1 0).slot ∧ 40 ≤ (PatchItem.mk 0 1 40 0 1 0).design
        ∧ (PatchItem.mk 0 1 39 0 0 0).delay = 0)
      ∧ ((PatchItem.mk 7 1 39 255 1 (-1)).slot = (7 : Fin 8).val ∧ 1 ≤ (PatchItem.mk 7 1 39 255 1 (-1)).delay
        ∧ (PatchItem.mk 7 1 39 255 1 (-1)).design = (39 : Fin 40).val ∧ (PatchItem.mk 7 0 0 0 0 0).action = 0)
      ∧ (Settled (acting .tails 1 [] [4, 12] budgetState)
        ∧ (acting .tails 1 [] [4, 12] budgetState).actingOn .tails = some (hand .tails 1 [] (.acting [4, 12]), [4, 12]))
      ∧ (acting .patches 1 [] [6, 0, 0, 0, 0, 0, 0, 0] live).actingOn .patches
        = some (hand .patches 1 [] (.acting [6, 0, 0, 0, 0, 0, 0, 0]), [6, 0, 0, 0, 0, 0, 0, 0]) := by decide +kernel

theorem witness_PickupsCardWritesSettings :
    32 ≤ (PickupItem.mk 32 1 64 10000 .factory).pickup ∧ (PickupItem.mk 31 1 64 10000 .factory).pickup = (31 : Fin 32).val
      ∧ 1 < (PickupItem.mk 31 2 64 10000 .factory).enable ∧ (PickupItem.mk 31 1 64 10000 .factory).enable ≤ 1
      ∧ Settled (acting .pickups 1 [] [9] live)
      ∧ (acting .pickups 1 [] [9] live).actingOn .pickups = some (hand .pickups 1 [] (.acting [9]), [9]) := by decide +kernel

theorem witness_MutesCardActsOnACopy :
    (let r := muteItems .toggle 0x8000 none 0 [5, 5, 32] { flags := List.replicate 32 false, writes := [] }
     r.2 = some (2, .range))
      ∧ (let r := muteItems .set 0x8000 (some 1) 0 [5, 31] { flags := List.replicate 32 false, writes := [] }
         r.2 = some (1, .link))
      ∧ (Settled (acting .mutes 1 [3, 1] [5, 0] live)
        ∧ (acting .mutes 1 [3, 1] [5, 0] live).actingOn .mutes = some (hand .mutes 1 [3, 1] (.acting [5, 0]), [5, 0])
        ∧ MuteOp.ofCode ((hand .mutes 1 [3, 1] (.acting [5, 0])).arg 24 1) = some .test
        ∧ (hand .mutes 1 [3, 1] (.acting [5, 0])).arg 25 1 ≤ 1)
      ∧ 3 < 4 ∧ 3 < (hand .mutes 1 [4, 0] (.acting [])).arg 24 1 ∧ 1 < (hand .mutes 1 [0, 2] (.acting [])).arg 25 1 := by decide +kernel

/-! ### Witnesses: meters, cue line, reader, protection, store, report -/

/-- A page write begun by a card. -/
def paging : State := after .snapshot (acting .snapshot 1 [1] [] live)

theorem witness_SnapshotCardTakesOrRefuses :
    (Settled (acting .snapshot 1 [1] [] live)
      ∧ (acting .snapshot 1 [1] [] live).actingOn .snapshot = some (hand .snapshot 1 [1] (.acting []), [])
      ∧ (hand .snapshot 1 [1] (.acting [])).arg 24 1 ≤ 1 ∧ live.meter.writer = none ∧ live.reader.snapCard = none
      ∧ live.root = some root0)
      ∧ 1 < (hand .snapshot 1 [2] (.acting [])).arg 24 1
      ∧ Settled (acting .snapshot 1 [1] [] paging) ∧ (acting .snapshot 1 [1] [] paging).meter.writer.isSome = true := by decide +kernel

theorem witness_MeterPageTransfersEnd :
    Settled paging ∧ paging.meter.writer = some { addr := 0x4000, seq := 1, turn := 0 } ∧ paging.meter.hold.isSome = true
      ∧ (let s := paging.setMeter { paging.meter with writer := some { addr := 0x4000, seq := 1, turn := 14 } }
         Settled s ∧ (s.meter.writer.map fun w => w.turn) = some 14)
      ∧ PageWrite.turn { addr := 0x4000, seq := 1, turn := 1 } = 1 ∧ PageWrite.turn { addr := 0x4000, seq := 1, turn := 13 } = 13 := by
  decide +kernel

theorem witness_CueLineSamplesAndCard :
    (Settled live ∧ live.cue.enable = false)
      ∧ (Settled pressed ∧ pressed.cue.enable = true ∧ pressed.cue.edge = .falling ∧ pressed.cue.filtered = some .high
        ∧ pressed.cue.counter = 0 ∧ (pressed.cue.history ++ [Level.low]).count Level.low = 3)
      ∧ (Settled (acting .cueLine 1 [1, 1, 4, 0, 0x11, 0x27] [] live)
        ∧ (acting .cueLine 1 [1, 1, 4, 0, 0x11, 0x27] [] live).actingOn .cueLine
          = some (hand .cueLine 1 [1, 1, 4, 0, 0x11, 0x27] (.acting []), [])
        ∧ (hand .cueLine 1 [1, 1] (.acting [])).arg 24 1 ≤ 1 ∧ (hand .cueLine 1 [1, 1] (.acting [])).arg 25 1 ≤ 1)
      ∧ 1 < (hand .cueLine 1 [2, 0] (.acting [])).arg 24 1 := by decide +kernel

theorem witness_SweepReadsSlotsInTagOrder :
    (Settled (sweeping 101 5) ∧ (sweeping 101 5).reader.state = .sweeping ∧ (sweeping 101 5).reader.hand = none
      ∧ (sweeping 101 5).root = some root0 ∧ (sweeping 101 5).reader.streak < root0.slotCount)
      ∧ ((slotOf 0 2 101)[0] ≠ 1 ∧ (slotOf 1 2 101)[0] = 1 ∧ field (slotOf 1 2 101).toList 2 2 = 101
        ∧ (field (slotOf 1 2 102).toList 2 2 + 65536 - 101) % 65536 = 1 ∧ (field ((slotOf 1 2 100).set 3 128).toList 2 2 + 65536 - 101) % 65536 = 32767
        ∧ (field (slotOf 1 2 99).toList 2 2 + 65536 - 101) % 65536 = 65534)
      ∧ Settled (sweeping 103 6) ∧ root0.slotCount ≤ (sweeping 103 6).reader.streak
      ∧ (1 < 2 ∧ 24 ≤ 24) ∧ (Hand.ofBytes 5 0x2140 (slotOf 1 2 101) false .taking).kind = some .standby := by decide +kernel

theorem witness_CardsGoThroughTheirSteps :
    (Settled (withHand (hand .go 1 [] .taking) live) ∧ (withHand (hand .go 1 [] .taking) live).reader.hand = some (hand .go 1 [] .taking))
      ∧ (hand .stage 33 [] (.listing [] 264)).phase = .listing [] 264
      ∧ (hand .go 1 [] (.completing [Transfer.mk 0x2086 [0, 0, 0, 0], Transfer.mk 0x2080 [3]])).phase
          = .completing (Transfer.mk 0x2086 [0, 0, 0, 0] :: Transfer.mk 0x2080 [3] :: [])
      ∧ (hand .go 1 [] (.completing [Transfer.mk 0x2080 [3]])).phase = .completing [Transfer.mk 0x2080 [3]] := by decide +kernel

theorem witness_LongCardsCompleteLater :
    Settled longs ∧ (longs.reader.storeCard.bind LongCard.outcome).isSome = true ∧ (longs.reader.snapCard.bind LongCard.outcome).isSome = true
      ∧ 2 < (completionTransfers 0x2000 (Completion.mk .ok 0 0 [(24, [7, 0, 0, 0])])).length := by decide +kernel

theorem witness_ProtectActionsByState :
    (Settled (acting .protect 1 (protArgs 2 0xA) [] locked) ∧ locked.prot.wrong ≤ 5
      ∧ (acting .protect 1 (protArgs 2 0xA) [] locked).actingOn .protect = some (hand .protect 1 (protArgs 2 0xA) (.acting []), []))
      ∧ ((hand .protect 1 (protArgs 1 0) (.acting [])).arg 24 1 = 1 ∧ (hand .protect 1 (protArgs 2 0) (.acting [])).arg 24 1 = 2
        ∧ (hand .protect 1 (protArgs 4 0) (.acting [])).arg 24 1 = 4 ∧ (hand .protect 1 (protArgs 8 0) (.acting [])).arg 24 1 = 8
        ∧ (hand .protect 1 (protArgs 16 0) (.acting [])).arg 24 1 = 16
        ∧ (hand .protect 1 (protArgs 3 0) (.acting [])).arg 24 1 ∉ [1, 2, 4, 8, 16])
      ∧ Settled (withHand (hand .protect 1 (protArgs 16 0) .blowing) live) := by decide +kernel

theorem witness_StoreCapturesAndWrites :
    (Settled (acting .store 1 [] [] live) ∧ (acting .store 1 [] [] live).actingOn .store = some (hand .store 1 [] (.acting []), [])
      ∧ live.store.state = .idle ∧ live.reader.storeCard = none)
      ∧ (Settled (acting .store 1 [] [] storing) ∧ storing.store.state = .writing .erasing (captureImage live))
      ∧ (Settled (after .storeEraseEnd storing) ∧ (after .storeEraseEnd storing).store.state = .writing .programming (captureImage live)) := by
  decide +kernel

theorem witness_StoreVerifies (i : Image) :
    Settled (live.setStore { state := .writing .verifying i, seq := 6, flash := imageBytes i })
      ∧ Settled (live.setStore { state := .writing .clearing i, seq := 6, flash := erasedFlash }) :=
  ⟨⟨rfl, rfl, rfl⟩, ⟨rfl, rfl, rfl⟩⟩

theorem witness_ReportCopiesAndWrites :
    (Settled (acting .report 4 [4, 0] [] budgetState)
      ∧ (acting .report 4 [4, 0] [] budgetState).actingOn .report = some (hand .report 4 [4, 0] (.acting []), []))
      ∧ (let s := after .report (acting .report 4 [4, 0] [] budgetState)
         Settled s ∧ s.reader.hand = some { hand .report 4 [4, 0] (.acting []) with
           phase := .reporting (budgetState.table.drop 4) 0 1 5 0 })
      ∧ (∀ e ∈ budgetState.table, isGain e.requested ∧ isGain e.target ∧ isGain e.current) := by decide +kernel

end Sys2Proof.Tests
end

section
/-! The effective gain (R20). -/

namespace Sys2Proof.Machine

/-! ### The effective gain (R18 to R20) -/

/-- Truncation toward zero divides the magnitude of the product. -/
theorem effectiveGain_natAbs (c : Int) (f d : Nat) : (effectiveGain c f d).natAbs = c.natAbs * (f * d) / 65536 := by
  simp [effectiveGain, Int.natAbs_tdiv, Int.natAbs_mul, Nat.mul_assoc]; rfl

/-- Two factors of at most 256 do not raise the magnitude of a gain. -/
theorem effectiveGain_natAbs_le (c : Int) {f d : Nat} (hf : f ≤ 256) (hd : d ≤ 256) :
    (effectiveGain c f d).natAbs ≤ c.natAbs := by
  have product : f * d ≤ 65536 := Nat.mul_le_mul hf hd
  calc (effectiveGain c f d).natAbs = c.natAbs * (f * d) / 65536 := effectiveGain_natAbs c f d
    _ ≤ c.natAbs * 65536 / 65536 := Nat.div_le_div_right (Nat.mul_le_mul_left _ product)
    _ = c.natAbs := Nat.mul_div_cancel _ (by omega)

theorem effectiveGain_zero_factor (c : Int) {f d : Nat} (h : f = 0 ∨ d = 0) : effectiveGain c f d = 0 := by
  rcases h with rfl | rfl <;> simp [effectiveGain]

theorem effectiveGain_full_factors (c : Int) : effectiveGain c 256 256 = c := by
  have product : c * (256 : Nat) * (256 : Nat) = c * 65536 := by push_cast; ring
  rw [effectiveGain, product, Int.mul_tdiv_cancel c (by omega)]

/-- Factors are not negative, so a gain keeps its sign unless it is truncated to 0. -/
theorem effectiveGain_sign (c : Int) (f d : Nat) : effectiveGain c f d = 0 ∨ (effectiveGain c f d).sign = c.sign := by
  by_cases factors : f = 0 ∨ d = 0
  · exact .inl (effectiveGain_zero_factor c factors)
  · obtain ⟨hf, hd⟩ := not_or.mp factors
    have sign_product : (c * f * d).sign = c.sign := by
      simp [Int.sign_mul, Int.sign_natCast_of_ne_zero hf, Int.sign_natCast_of_ne_zero hd]
    by_cases small : (c * f * d).natAbs < (65536 : Int).natAbs
    · left
      rw [← Int.sign_eq_zero_iff_zero, effectiveGain, Int.sign_tdiv, if_pos small]
    · right
      rw [effectiveGain, Int.sign_tdiv, if_neg small, sign_product]
      exact Int.mul_one _

/-- Settles O18, clause by clause from the magnitude and the sign of the truncated product. -/
theorem effectiveGainNeverExceedsCurrent : Obligations.EffectiveGainNeverExceedsCurrent := by
  intro c f d hf hd
  refine ⟨rfl, effectiveGain_sign c f d, effectiveGain_zero_factor c, ?_, effectiveGain_natAbs_le c hf hd⟩
  rintro rfl rfl
  exact effectiveGain_full_factors c

end Sys2Proof.Machine
end

section
/-! The path table through every command: the laws of its keys and entries. -/
namespace Sys2Proof.Machine

/-! ### The laws of `TableInv`, part by part

R8 and R13 speak of the keys of the table alone, and R44's "keys apart" of the keys of the standby list alone, so the laws
are stated of lists of keys: what an operation does to the keys then says what it does to the laws. -/

/-- The keys of a table: in key order, at most 1536, at most 24 into a destination (R8, R13). -/
structure KeysFit (ks : List Key) : Prop where
  ordered : ks.Pairwise fun a b => a.rank < b.rank
  total : ks.length ≤ 1536
  perDest : ∀ d, (ks.countP fun k => k.destCode == d) ≤ 24

/-- The laws of a path table (R8, R9, R13). -/
structure TableFits (table : List Entry) : Prop where
  keys : KeysFit (table.map Entry.key)
  ranges : ∀ e ∈ table, e.inRange

/-- The laws of a standby list (R44). -/
structure StandbyFits (items : List StandbyItem) : Prop where
  total : items.length ≤ 1536
  keys : (items.map StandbyItem.key).Nodup
  ranges : ∀ i ∈ items, i.inRange

theorem ordered_keys_iff (table : List Entry) : ((table.map Entry.key).Pairwise fun a b => a.rank < b.rank)
    ↔ table.Pairwise fun a b => a.key.rank < b.key.rank :=
  List.pairwise_map

theorem destCount_eq (table : List Entry) (d : Nat) :
    destCount table d = (table.map Entry.key).countP fun k => k.destCode == d := by
  rw [List.countP_map]; rfl

theorem tableInv_iff (s : State) : TableInv s ↔ TableFits s.table ∧ StandbyFits s.stager.standby.items := by
  constructor
  · rintro ⟨ordered, total, perDest, ranges, standbyTotal, standbyKeys, standbyRanges⟩
    exact ⟨⟨⟨(ordered_keys_iff _).2 ordered, by simpa using total, fun d => destCount_eq _ d ▸ perDest d⟩, ranges⟩,
      standbyTotal, List.pairwise_map.2 standbyKeys, standbyRanges⟩
  · rintro ⟨⟨⟨ordered, total, perDest⟩, ranges⟩, standbyTotal, standbyKeys, standbyRanges⟩
    exact ⟨(ordered_keys_iff _).1 ordered, by simpa using total, fun d => (destCount_eq _ d).symm ▸ perDest d, ranges,
      standbyTotal, List.pairwise_map.1 standbyKeys, standbyRanges⟩

/-- Leaving keys out keeps the laws of the rest. -/
theorem KeysFit.sublist {ks js : List Key} (h : KeysFit ks) (sub : js.Sublist ks) : KeysFit js :=
  ⟨h.ordered.sublist sub, sub.length_le.trans h.total, fun d => sub.countP_le.trans (h.perDest d)⟩

theorem tableFits_nil : TableFits [] := ⟨⟨.nil, by simp, by simp⟩, by simp⟩
theorem standbyFits_nil : StandbyFits [] := ⟨by simp, by simp, by simp⟩

/-! ### Changes of single entries -/

/-- What every operation on an entry keeps: its key, and its fields in their ranges. -/
def EntryKept (e e' : Entry) : Prop := e'.key = e.key ∧ (e.inRange → e'.inRange)

theorem EntryKept.refl (e : Entry) : EntryKept e e := ⟨rfl, id⟩

/-- The keys of the entries that stay are among the keys there were, in their order. -/
theorem keys_filterMap_sublist {f : Entry → Option Entry} (hf : ∀ e e', f e = some e' → e'.key = e.key)
    (table : List Entry) : ((table.filterMap f).map Entry.key).Sublist (table.map Entry.key) := by
  induction table with
  | nil => simp
  | cons e es ih =>
    cases hfe : f e with
    | none => simpa [List.filterMap_cons, hfe] using ih.cons e.key
    | some e' => simpa [List.filterMap_cons, hfe, hf e e' hfe] using ih

/-- A change of each entry that may let it leave the table keeps the table's laws. -/
theorem TableFits.filterMap {table : List Entry} (h : TableFits table) {f : Entry → Option Entry}
    (hf : ∀ e e', f e = some e' → EntryKept e e') : TableFits (table.filterMap f) where
  keys := h.keys.sublist (keys_filterMap_sublist (fun e e' he => (hf e e' he).1) table)
  ranges e' he' := by
    obtain ⟨e, he, hfe⟩ := List.mem_filterMap.1 he'
    exact (hf e e' hfe).2 (h.ranges e he)

theorem TableFits.map {table : List Entry} (h : TableFits table) {f : Entry → Entry} (hf : ∀ e, EntryKept e (f e)) :
    TableFits (table.map f) := by
  rw [← List.filterMap_eq_map]
  refine h.filterMap fun e e' he => ?_
  obtain rfl : f e = e' := by simpa using he
  exact hf e

theorem TableFits.updateEntry {table : List Entry} (h : TableFits table) (k : Key) {f : Entry → Entry}
    (hf : ∀ e, EntryKept e (f e)) : TableFits (updateEntry k f table) := by
  refine h.map fun e => ?_
  split
  · exact hf e
  · exact .refl e

theorem TableFits.removeEntry {table : List Entry} (h : TableFits table) (k : Key) : TableFits (removeEntry k table) where
  keys := h.keys.sublist (List.filter_sublist.map Entry.key)
  ranges e he := h.ranges e ((mem_removeEntry e k table).1 he).1

/-- The pending delay of an entry in range (R9). -/
theorem Entry.inRange.pending {e : Entry} (h : e.inRange) {st : Int} {r p u : Nat} (hm : e.motion = .dipDown st r p u) :
    p ≤ 4800 := by
  obtain ⟨_, _, range⟩ := h
  rwa [hm] at range

/-- An entry is in range where its requested gain and its delay are and no dip waits. -/
theorem inRange_of_no_dip {e : Entry} (gain : isGain e.requested) (delay : e.delay ≤ 4800)
    (noDip : ∀ st r p u, e.motion ≠ .dipDown st r p u) : e.inRange := by
  refine ⟨gain, delay, ?_⟩
  split
  · rename_i hm; exact absurd hm (noDip _ _ _ _)
  · trivial
  · trivial
  · trivial
  · trivial

/-- A change of target, current gain and movement that leaves no dip waiting. -/
theorem entryKept_of_no_dip {e e' : Entry} (key : e'.key = e.key) (gain : e'.requested = e.requested)
    (delay : e'.delay = e.delay) (noDip : ∀ st r p u, e'.motion ≠ .dipDown st r p u) : EntryKept e e' :=
  ⟨key, fun ⟨hg, hd, _⟩ => inRange_of_no_dip (gain ▸ hg) (delay ▸ hd) noDip⟩

theorem entryKept_target (e : Entry) (x : Int) : EntryKept e { e with target := x } := ⟨rfl, id⟩

theorem entryKept_landRamp (e : Entry) : EntryKept e e.landRamp := entryKept_of_no_dip rfl rfl rfl nofun

theorem entryKept_upEnd (e : Entry) : EntryKept e e.upEnd := entryKept_of_no_dip rfl rfl rfl nofun

theorem entryKept_settle1 (e : Entry) : EntryKept e (settle1 e) := entryKept_of_no_dip rfl rfl rfl nofun

theorem entryKept_retire (e : Entry) : EntryKept e e.retire :=
  ⟨rfl, fun ⟨_, delay, _⟩ => inRange_of_no_dip (by simp [Entry.retire, isGain]) delay nofun⟩

theorem entryKept_ordinaryRamp (n : Nat) (e : Entry) : EntryKept e (ordinaryRamp n e) := by
  unfold ordinaryRamp
  split
  · exact entryKept_of_no_dip rfl rfl rfl nofun
  · exact entryKept_of_no_dip rfl rfl rfl nofun

theorem entryKept_retiringRamp {n : Nat} {e e' : Entry} (h : retiringRamp n e = some e') : EntryKept e e' := by
  unfold retiringRamp at h
  split at h
  · cases h
  · cases h; exact entryKept_of_no_dip rfl rfl rfl nofun

/-- At the low point of a dip the pending delay becomes the delay in use (R72). -/
theorem entryKept_lowPoint (e : Entry) : EntryKept e e.lowPoint := by
  refine ⟨e.lowPoint_key, fun h => ?_⟩
  cases hm : e.motion with
  | dipDown st r p u =>
    simp only [Entry.lowPoint, hm]
    exact inRange_of_no_dip h.1 (h.pending hm) nofun
  | settled | ramping | dipUp | retiring => simpa only [Entry.lowPoint, hm] using h

/-- A step of a movement keeps the delay, and a dip's pending delay (R69, R72, R73). -/
theorem entryKept_advance (e : Entry) : EntryKept e e.advance := by
  cases hm : e.motion with
  | settled => simpa only [Entry.advance, hm] using EntryKept.refl e
  | dipDown st r p u =>
    simp only [Entry.advance, hm]
    split
    · exact .refl e
    · exact ⟨rfl, fun h => ⟨h.1, h.2.1, h.pending hm⟩⟩
  | ramping | dipUp | retiring =>
    simp only [Entry.advance, hm]
    split
    · exact .refl e
    · exact entryKept_of_no_dip rfl rfl rfl nofun

/-- A dip goes to the delay asked of it, at once or as its pending delay (R70, R71). -/
theorem entryKept_dipTo (n : Nat) {d : Nat} (e : Entry) (hd : e.inRange → d ≤ 4800) : EntryKept e (dipTo n d e) := by
  unfold dipTo
  split
  · obtain ⟨key, range⟩ := entryKept_ordinaryRamp n { e with delay := d }
    exact ⟨key, fun h => range ⟨h.1, hd h, h.2.2⟩⟩
  · exact ⟨rfl, fun h => ⟨h.1, h.2.1, hd h⟩⟩

/-- The delay a merge brings an entry to is one asked of it, its dip's pending delay, or its own (R57, R75). -/
theorem entryKept_goMovement (n : Nat) {asked : Option Nat} (ha : ∀ d, asked = some d → d ≤ 4800) (e : Entry) :
    EntryKept e (goMovement n asked e) := by
  unfold goMovement
  extract_lets wanted dipping
  have wanted_le : e.inRange → wanted ≤ 4800 := by
    intro h
    simp only [wanted]
    split
    · exact ha _ rfl
    · rename_i hm; exact h.pending hm
    · exact h.2.1
  split
  · exact entryKept_dipTo n e wanted_le
  · split
    · exact entryKept_ordinaryRamp n e
    · split
      · exact entryKept_ordinaryRamp n e
      · exact entryKept_settle1 e

/-- The movement a merge hands an entry that stays in the table (R57). -/
theorem entryKept_handMovement (n : Nat) {asked : Option Nat} (ha : ∀ d, asked = some d → d ≤ 4800) {e e' : Entry}
    (h : handMovement n asked e = some e') : EntryKept e e' := by
  cases hm : e.motion with
  | retiring => exact entryKept_retiringRamp (by simpa only [handMovement, hm] using h)
  | settled | ramping | dipDown | dipUp =>
    obtain rfl : goMovement n asked e = e' := by simpa only [handMovement, hm, Option.some.injEq] using h
    exact entryKept_goMovement n ha e

/-- A CEILINGS card restarts movements, and a dip keeps the delay it leads to (R76). -/
theorem entryKept_ceilingMovement (m : Nat) (e : Entry) : EntryKept e (ceilingMovement m e) := by
  cases hm : e.motion with
  | retiring => simpa only [ceilingMovement, hm] using EntryKept.refl e
  | dipDown =>
    simp only [ceilingMovement, hm]
    exact entryKept_dipTo m e fun h => h.pending hm
  | dipUp =>
    simp only [ceilingMovement, hm]
    split
    · exact entryKept_settle1 e
    · split
      · exact entryKept_of_no_dip rfl rfl rfl nofun
      · exact entryKept_of_no_dip rfl rfl rfl nofun
  | settled | ramping =>
    simp only [ceilingMovement, hm]
    split
    · exact entryKept_settle1 e
    · exact entryKept_ordinaryRamp m e

/-! ### The budget unit writes targets only -/

theorem TableFits.tailStage {table : List Entry} (h : TableFits table) : TableFits (tailStage table) := by
  refine h.map fun e => ?_
  split
  · exact entryKept_target e _
  · exact .refl e

theorem TableFits.emitterStage {table : List Entry} (h : TableFits table) (c : Vector Nat 96) (chosen : Fin 96 → Bool) :
    TableFits (emitterStage c chosen table) := by
  refine h.map fun e => ?_
  split
  · split
    · exact entryKept_target e _
    · exact .refl e
  · exact .refl e

theorem TableFits.fullBudget {table : List Entry} (h : TableFits table) (b : Budget) : TableFits (fullBudget b table) :=
  h.tailStage.emitterStage _ _

theorem TableFits.recomputedTable {table : List Entry} (h : TableFits table) (b : Budget) (chosen : Fin 96 → Bool)
    (fade : Nat) : TableFits (recomputedTable b chosen fade table) := by
  refine (h.emitterStage _ _).map fun e => ?_
  split
  · split
    · exact entryKept_ceilingMovement fade e
    · exact .refl e
  · exact .refl e

end Sys2Proof.Machine
end

section
/-! Staging, the capacity check and the merge keep the laws of the table and of the standby list. -/
namespace Sys2Proof.Machine

/-! ### Staging (R44, R45, R47) -/

/-- The keys of the standby list after an item is staged: a new key goes last (R44). -/
theorem keys_stageInto (it : StandbyItem) (items : List StandbyItem) :
    (stageInto it items).map StandbyItem.key =
      if it.key ∈ items.map StandbyItem.key then items.map StandbyItem.key
      else items.map StandbyItem.key ++ [it.key] := by
  induction items with
  | nil => simp [stageInto]
  | cons x xs ih =>
    by_cases hx : x.key = it.key
    · simp [stageInto, hx]
    · simp only [stageInto, if_neg hx, List.map_cons, List.mem_cons, Ne.symm hx, false_or, ih]
      split
      · rfl
      · rfl

theorem mem_stageInto {it i : StandbyItem} {items : List StandbyItem} (h : i ∈ stageInto it items) :
    i = it ∨ i ∈ items := by
  induction items with
  | nil => exact .inl (by simpa [stageInto] using h)
  | cons x xs ih =>
    simp only [stageInto] at h
    split at h
    · exact (List.mem_cons.1 h).imp_right (List.mem_cons_of_mem x)
    · rcases List.mem_cons.1 h with rfl | h
      · exact .inr List.mem_cons_self
      · exact (ih h).imp_right (List.mem_cons_of_mem x)

/-- An item of a key of the list, or one that finds room, keeps the laws of the list (R44, R47). -/
theorem StandbyFits.stageInto {items : List StandbyItem} (h : StandbyFits items) {it : StandbyItem} (hit : it.inRange)
    (room : it.key ∈ items.map StandbyItem.key ∨ items.length < 1536) : StandbyFits (stageInto it items) := by
  have ranges : ∀ i ∈ Machine.stageInto it items, i.inRange := fun i hi =>
    (mem_stageInto hi).elim (fun e => e ▸ hit) (h.ranges i)
  have length_keys : ((Machine.stageInto it items).map StandbyItem.key).length = (Machine.stageInto it items).length :=
    List.length_map _
  have keys := keys_stageInto it items
  by_cases known : it.key ∈ items.map StandbyItem.key
  · rw [if_pos known] at keys
    refine ⟨?_, keys ▸ h.keys, ranges⟩
    rw [← length_keys, keys, List.length_map]
    exact h.total
  · rw [if_neg known] at keys
    refine ⟨?_, keys ▸ List.nodup_append'.2 ⟨h.keys, by simp, by simpa using known⟩, ranges⟩
    rw [← length_keys, keys, List.length_append, List.length_map]
    exact room.resolve_left known

/-- A path item's gain is 16 bits (R177), and its delay is clamped as it is staged (R47). -/
theorem stagedOp_inRange (b : List Byte) (k : Key) :
    StandbyItem.inRange { key := k, op := (PathItem.ofBytes b).stagedOp } := by
  have low := BitVec.le_toInt (BitVec.ofNat 16 (field b 4 2))
  have high := BitVec.toInt_lt (x := BitVec.ofNat 16 (field b 4 2))
  simp only [PathItem.stagedOp]
  split
  · exact ⟨⟨low, Int.le_of_lt_add_one high⟩, Nat.min_le_right _ _⟩
  · trivial

/-- One item of a STAGE card: what it stages, where it does not fail (R47). -/
theorem stageItem_ok {x y : List StandbyItem × Nat} {p : PathItem} (h : stageItem x p = .ok y) :
    ∃ k, y.1 = stageInto { key := k, op := p.stagedOp } x.1
      ∧ (k ∈ x.1.map StandbyItem.key ∨ x.1.length < 1536) := by
  unfold stageItem at h
  split at h
  · cases h
  · split at h
    · cases h
    · rename_i k _
      split at h
      · cases h
      · rename_i full
        cases h
        refine ⟨k, rfl, ?_⟩
        by_contra refused
        obtain ⟨unknown, long⟩ := not_or.mp refused
        exact full ⟨by simpa using unknown, by omega⟩

/-- What every item of the card keeps where it passes, the card keeps. Beside `applyItems_keeps`, this lets a step use where its item
came from: the gain of a staged item is in range because it was read from two bytes. -/
theorem applyItems_keeps_mem {σ α : Type} {f : σ → α → Except Result σ} {P : σ → Prop} (as : List α)
    (step : ∀ x y, ∀ a ∈ as, P x → f x a = .ok y → P y) : ∀ (i : Nat) (x : σ), P x → P (applyItems f i as x).1 := by
  induction as with
  | nil => exact fun i x h => h
  | cons a as ih =>
    intro i x h
    simp only [applyItems]
    split
    · rename_i y hy
      exact ih (fun x y b hb => step x y b (List.mem_cons_of_mem a hb)) _ _ (step _ _ a List.mem_cons_self h hy)
    · exact h

/-- The items of a STAGE card keep the laws of the standby list (R44, R47). -/
theorem StandbyFits.stageItems {items : List StandbyItem} (h : StandbyFits items) (hand : Hand) (bytes : List Byte) :
    StandbyFits (applyItems stageItem 0 (pathItems hand bytes) (items, 0)).1.1 := by
  refine applyItems_keeps_mem (P := fun x => StandbyFits x.1) _ ?_ 0 (items, 0) h
  intro x y p hp fits staged
  obtain ⟨b, _, rfl⟩ := List.mem_map.1 hp
  obtain ⟨k, hy, room⟩ := stageItem_ok staged
  rw [hy]
  exact fits.stageInto (stagedOp_inRange b k) room

@[simp] theorem stagedState_items (before : Standby) (items : List StandbyItem) :
    (stagedState before items).items = items := by
  unfold stagedState
  split
  · rfl
  · rfl

/-! ### The capacity check (R53) and what a merge adds -/

theorem hasKey_eq_decide (table : List Entry) (k : Key) : hasKey table k = decide (k ∈ table.map Entry.key) := by
  rw [Bool.eq_iff_iff, hasKey_iff, decide_eq_true_iff, List.mem_map]

/-- The new keys of a scene depend on which of its keys the table has. -/
theorem newKeys_congr {t u : List Entry} {items : List StandbyItem}
    (h : ∀ i ∈ items, hasKey t i.key = hasKey u i.key) : newKeys t items = newKeys u items := by
  unfold newKeys
  congr 1
  refine List.filter_congr fun i hi => ?_
  simp only [isNewKey, h i hi]

theorem keys_insertEntry_perm (e : Entry) (t : List Entry) :
    ((insertEntry e t).map Entry.key).Perm (e.key :: t.map Entry.key) := by
  induction t with
  | nil => simp [insertEntry]
  | cons x xs ih =>
    simp only [insertEntry]
    split
    · simp
    · exact (ih.cons x.key).trans (.swap _ _ _)

/-- The SET items of a scene add the scene's new keys to those of the table, and nothing else (R13, R55). -/
theorem keys_foldl_mergeItem_perm (cue : Nat) (items : List StandbyItem) :
    ∀ t : List Entry, (items.map StandbyItem.key).Nodup →
      ((items.foldl (mergeItem cue) t).map Entry.key).Perm (newKeys t items ++ t.map Entry.key) := by
  induction items with
  | nil => exact fun t _ => .refl _
  | cons i is ih =>
    intro t distinct
    obtain ⟨k, op⟩ := i
    obtain ⟨absent, apart⟩ := List.nodup_cons.1 distinct
    cases op with
    | retire => exact ih t apart
    | set g d =>
      rw [List.foldl_cons]
      refine (ih _ apart).trans ?_
      cases known : hasKey t k with
      | true =>
        have merged : mergeItem cue t { key := k, op := .set g d } = updateEntry k (Entry.asked cue g) t := by
          simp [mergeItem, known]
        have keys := updateEntry_keys k (Entry.asked cue g) (fun _ => rfl) t
        have new : newKeys t ({ key := k, op := .set g d } :: is) = newKeys t is := by
          simp [newKeys, isNewKey, known]
        rw [merged, keys, new, newKeys_congr (u := t) fun j _ => by rw [hasKey_eq_decide, hasKey_eq_decide, keys]]
      | false =>
        have merged : mergeItem cue t { key := k, op := .set g d } = insertEntry (newEntry cue k g d) t := by
          simp [mergeItem, known]
        have keys := keys_insertEntry_perm (newEntry cue k g d) t
        have new : newKeys t ({ key := k, op := .set g d } :: is) = k :: newKeys t is := by
          simp [newKeys, isNewKey, known]
        have same : ∀ j ∈ is, hasKey (insertEntry (newEntry cue k g d) t) j.key = hasKey t j.key := by
          intro j hj
          have other : j.key ≠ k := fun e => absent (List.mem_map.2 ⟨j, hj, e⟩)
          simp only [hasKey_eq_decide, keys.mem_iff, List.mem_cons]
          simp [newEntry, other]
        rw [merged, new, newKeys_congr same]
        exact (keys.append_left _).trans List.perm_middle

/-- Where the capacity check names no full destination, the new keys fit into every destination (R53). -/
theorem fullDest_none {table : List Entry} (ks : List Key) : ∀ seen : List Key, fullDest table seen ks = none →
    (∀ d, destCount table d + (seen.countP fun k => k.destCode == d) ≤ 24) →
    ∀ d, destCount table d + (seen.countP fun k => k.destCode == d) + (ks.countP fun k => k.destCode == d) ≤ 24 := by
  induction ks with
  | nil => exact fun seen _ fits d => by simpa using fits d
  | cons k ks ih =>
    intro seen passes fits d
    unfold fullDest at passes
    split at passes
    · cases passes
    · rename_i room
      have fits' : ∀ d, destCount table d + ((k :: seen).countP fun j => j.destCode == d) ≤ 24 := by
        intro d
        by_cases hd : k.destCode = d
        · subst hd
          simp only [List.countP_cons, beq_self_eq_true, if_true]
          omega
        · simpa [List.countP_cons, hd] using fits d
      have rest := ih _ passes fits' d
      simp only [List.countP_cons] at rest ⊢
      omega

/-- A scene that passes the capacity check fits: its new keys and the table's keys together keep the limits (R13, R53). -/
theorem capacityCheck_none {table : List Entry} {items : List StandbyItem} (h : capacityCheck table items = none) :
    table.length + (newKeys table items).length ≤ 1536
      ∧ ((∀ d, destCount table d ≤ 24) →
        ∀ d, destCount table d + ((newKeys table items).countP fun k => k.destCode == d) ≤ 24) := by
  simp only [capacityCheck] at h
  split at h
  · cases h
  · rename_i room
    refine ⟨by omega, fun fits d => ?_⟩
    simpa using fullDest_none _ [] (Option.map_eq_none_iff.1 h) (by simpa using fits) d

/-! ### The merge (R55 to R57) -/

/-- A SET item keeps what it does not write, and its gain is in range (R17, R55). -/
theorem asked_inRange (cue : Nat) {g : Int} (hg : isGain g) {e : Entry} (h : e.inRange) : (Entry.asked cue g e).inRange := by
  cases hm : e.motion with
  | dipDown => simpa only [Entry.asked, hm, Entry.inRange] using ⟨hg, h.2.1, h.pending hm⟩
  | settled | ramping | dipUp | retiring =>
    refine inRange_of_no_dip hg h.2.1 ?_
    simp [Entry.asked, hm]

/-- One item of a scene keeps every entry's fields in their ranges (R55). -/
theorem mergeItem_inRange (cue : Nat) {i : StandbyItem} (hi : i.inRange) {t : List Entry} (h : ∀ e ∈ t, e.inRange) :
    ∀ e ∈ mergeItem cue t i, e.inRange := by
  obtain ⟨k, op⟩ := i
  cases op with
  | retire => exact h
  | set g d =>
    obtain ⟨gain, delay⟩ := hi
    simp only [mergeItem]
    split
    · intro e he
      obtain ⟨o, ho, rfl⟩ := List.mem_map.1 he
      split
      · exact asked_inRange cue gain (h o ho)
      · exact h o ho
    · intro e he
      rcases (mem_insertEntry _ _ _).1 he with rfl | he
      · exact inRange_of_no_dip gain delay nofun
      · exact h e he

theorem foldl_mergeItem_inRange (cue : Nat) (items : List StandbyItem) (hi : ∀ i ∈ items, i.inRange) :
    ∀ t : List Entry, (∀ e ∈ t, e.inRange) → ∀ e ∈ items.foldl (mergeItem cue) t, e.inRange := by
  induction items with
  | nil => exact fun t h => h
  | cons i is ih =>
    exact fun t h => ih (fun j hj => hi j (List.mem_cons_of_mem i hj)) _
      (mergeItem_inRange cue (hi i List.mem_cons_self) h)

/-- A delay that a scene asks of an entry is in range (R44, R55). -/
theorem askedDelay_le {items : List StandbyItem} (hi : ∀ i ∈ items, i.inRange) (k : Key) :
    ∀ d, askedDelay items k = some d → d ≤ 4800 := by
  intro d h
  obtain ⟨⟨key, op⟩, mem, found⟩ := List.exists_of_findSome?_eq_some h
  have range := hi _ mem
  split at found
  · cases op with
    | set g d' => cases found; exact range.2
    | retire => cases found
  · cases found

/-- The SET items of a scene that passes the capacity check keep the laws of the table (R13). -/
theorem TableFits.mergeItems {table : List Entry} (h : TableFits table) {items : List StandbyItem}
    (hi : StandbyFits items) (room : capacityCheck table items = none) (cue : Nat) :
    TableFits (items.foldl (mergeItem cue) table) := by
  obtain ⟨total, perDest⟩ := capacityCheck_none room
  have keys := keys_foldl_mergeItem_perm cue items table hi.keys
  refine ⟨⟨?_, ?_, fun d => ?_⟩, foldl_mergeItem_inRange cue items hi.ranges table h.ranges⟩
  · exact (ordered_keys_iff _).2 (foldl_mergeItem_ordered cue items table ((ordered_keys_iff _).1 h.keys.ordered))
  · rw [keys.length_eq, List.length_append, List.length_map]
    omega
  · rw [keys.countP_eq, List.countP_append, ← destCount_eq]
    have := perDest (fun d => destCount_eq table d ▸ h.keys.perDest d) d
    omega

/-- The merge keeps the laws of the table (R13, R55 to R57). -/
theorem TableFits.mergedTable {table : List Entry} (h : TableFits table) {items : List StandbyItem}
    (hi : StandbyFits items) (room : capacityCheck table items = none) (b : Budget) (hd : Header) :
    TableFits (mergedTable b table items hd) := by
  have requested : TableFits (requestedTable table items hd) := by
    refine (h.mergeItems hi room hd.cue).map fun e => ?_
    split
    · exact entryKept_retire e
    · exact .refl e
  exact (requested.fullBudget b).filterMap fun e e' =>
    entryKept_handMovement hd.fade (askedDelay_le hi.ranges e.key)

end Sys2Proof.Machine
end

section
/-! Which operations leave the paths, and what the others keep of `TableInv`. -/
namespace Sys2Proof.Machine

/-! ### Commands that leave the path table and the standby state -/

/-- The parts of the state that `TableInv` speaks of: the path table and the standby state. -/
def State.paths (s : State) : List Entry × Standby := (s.table, s.stager.standby)

theorem TableInv.of_paths {s t : State} (h : TableInv s) (same : t.paths = s.paths) : TableInv t := by
  obtain ⟨table, standby⟩ := Prod.mk.inj same
  rw [tableInv_iff] at h ⊢
  rwa [table, standby]

theorem finishStopping_paths (s : State) : (finishStopping s).paths = s.paths := by simp [State.paths]

/-! Run control, registers and resets (R84 to R88, R160 to R163). -/

theorem enterStopping_paths (s : State) : (enterStopping s).paths = s.paths := by
  have stopped : ∀ u : State, (stopReader u).paths = u.paths := by
    intro u
    unfold stopReader
    split
    · rfl
    · rfl
    · rfl
    · split <;> simp [State.paths]
  have left := stopped (s.setEngine { s.engine with state := .stopping, run := false })
  unfold enterStopping
  refine (finishStopping_paths _).trans ?_
  split
  · exact left
  · exact Eq.trans (by simp [State.paths]) left

theorem writeRun1_paths (s : State) : (writeRun1 s).paths = s.paths := by
  unfold writeRun1
  split
  · rfl
  · rfl
  · split <;> rfl
  · rfl
  · rfl

theorem writeRun0_paths (s : State) : (writeRun0 s).paths = s.paths := by
  unfold writeRun0
  split
  · rfl
  · exact enterStopping_paths s
  · rfl
  · rfl
  · rfl

theorem writeNoticeEnable_paths (on : Bool) (s : State) : (writeNoticeEnable on s).paths = s.paths := by
  unfold writeNoticeEnable; split <;> rfl

theorem writeVectorCount_paths (code : BitVec 2) (s : State) : (writeVectorCount code s).paths = s.paths := by
  unfold writeVectorCount; split <;> rfl

theorem sweepNow_paths (s : State) : (sweepNow s).paths = s.paths := by
  unfold sweepNow; split <;> rfl

theorem rootRead_paths (data : LinkRead 64) (s : State) : (rootRead data s).paths = s.paths := by
  unfold rootRead
  split
  · split
    · simp [State.paths, failStart]
    · split <;> rfl
  · rfl

theorem progressEnded_paths (ok : Bool) (s : State) : (progressEnded ok s).paths = s.paths := by
  unfold progressEnded
  split
  · rfl
  · cases ok <;> simp only [if_true, Bool.false_eq_true, if_false] <;> split <;> simp [State.paths]

theorem noticeEnded_paths (ok : Bool) (s : State) : (noticeEnded ok s).paths = s.paths := by
  unfold noticeEnded
  split
  · rfl
  · split
    · rfl
    · cases ok
      · simp only [noticeFailed, Bool.false_eq_true, if_false]
        split <;> simp [State.paths]
      · simp [State.paths]

/-! The mix engine's clock, lanes and samples (R89 to R96). -/

theorem loseClock_paths (s : State) : (loseClock s).paths = s.paths := by
  unfold loseClock
  split
  · exact (finishStopping_paths _).trans (by simp [State.paths])
  · rfl

theorem returnClock_paths (s : State) : (returnClock s).paths = s.paths := by
  unfold returnClock; split <;> rfl

theorem loseLane_paths (l : Fin 4) (s : State) : (loseLane l s).paths = s.paths := by simp [State.paths, loseLane]

theorem judgeLane_paths (markers : BitVec 4) (s : State) (l : Fin 4) : (judgeLane markers s l).paths = s.paths := by
  have earned : (if s.mix.lockReady l then s.setMix (s.mix.lockLane l) else s).paths = s.paths := by split <;> rfl
  unfold judgeLane
  extract_lets t
  split
  · split
    · exact earned
    · exact (loseLane_paths l t).trans earned
  · exact earned

theorem judgeLanes_paths (markers : BitVec 4) (s : State) : (judgeLanes markers s).paths = s.paths := by
  simp [judgeLanes, judgeLane_paths]

theorem computeSample_paths (lanes : Vector LaneWord 32) (b : Block) (s : State) :
    (computeSample lanes b s).paths = s.paths := by
  simp [State.paths, computeSample]

theorem samplePeriod_paths (lanes : Vector LaneWord 32) (markers : BitVec 4) (s : State) :
    (samplePeriod lanes markers s).paths = s.paths := by
  unfold samplePeriod
  split
  · extract_lets t
    have opened : t.paths = s.paths := by simp only [t]; split <;> simp [State.paths]
    split
    · rfl
    · split
      · exact (computeSample_paths lanes _ _).trans ((judgeLanes_paths markers t).trans opened)
      · rfl
  · rfl

/-! The card reader and the link port (R165 to R172). -/

theorem endSweep_paths (s : State) : (endSweep s).paths = s.paths := by
  simp only [endSweep]
  split <;> split <;> simp [State.paths]

theorem slotReadEnds_paths (data : LinkRead 64) (s : State) : (slotReadEnds data s).paths = s.paths := by
  have bytes : ∀ (r : Root) (v : Vector Byte 64), (slotBytes r v s).paths = s.paths := by
    intro r v
    simp only [slotBytes]
    split
    · split
      · rfl
      · split <;> rfl
    · rfl
  unfold slotReadEnds
  split
  · split
    · exact bytes _ _
    · simp [State.paths]
    · rfl
  · rfl

theorem itemListEnds_paths (data : LinkRead 256) (s : State) : (itemListEnds data s).paths = s.paths := by
  unfold itemListEnds
  split
  · rfl
  · split
    · split
      · rfl
      · simp only []; split <;> rfl
    all_goals rfl

theorem dispatchCard_paths (h : Hand) (s : State) : (dispatchCard h s).paths = s.paths := by
  unfold dispatchCard
  split
  · rfl
  · split
    · rfl
    · split <;> rfl

theorem cardWritten_paths (h : Hand) (s : State) : (cardWritten h s).paths = s.paths := by
  simp only [cardWritten]
  split <;> simp [State.paths]

theorem writeFails_paths (h : Hand) (s : State) : (writeFails h s).paths = s.paths := by
  unfold writeFails
  split <;> simp [State.paths]

theorem cardWriteEnds_paths (ok : Bool) (s : State) : (cardWriteEnds ok s).paths = s.paths := by
  unfold cardWriteEnds
  split
  · rfl
  · split
    · split
      · exact dispatchCard_paths _ _
      · exact writeFails_paths _ _
    · split
      · split
        · exact cardWritten_paths _ _
        · rfl
      · exact writeFails_paths _ _
    all_goals rfl

theorem longEnds_paths (k : LongKind) (failAt : Option Nat) (s : State) : (longEnds k failAt s).paths = s.paths := by
  unfold longEnds
  split
  · rfl
  · split
    · rfl
    · simp only []
      split
      · split <;> simp [State.paths, dropLong]
      · simp [State.paths, dropLong]

/-! The cards of the units that neither stage nor merge. -/

theorem protectDone_paths (h : Hand) (r : Result × Protect) (s : State) : (protectDone h r s).paths = s.paths := rfl

theorem protectCard_paths (a : ProtAction) {act : Hand → State → State} (hact : ∀ h s, (act h s).paths = s.paths)
    (h : Hand) (s : State) : (protectCard a act h s).paths = s.paths := by
  unfold protectCard
  split
  · rfl
  · split
    · exact hact h s
    · rfl

theorem TableInv.protectCard {s : State} (h : TableInv s) (a : ProtAction) {act : Hand → State → State}
    (hact : ∀ h s, (act h s).paths = s.paths) (hand : Hand) : TableInv (protectCard a act hand s) :=
  h.of_paths (protectCard_paths a hact hand s)

theorem fixCard_paths (h : Hand) (s : State) : (fixCard h s).paths = s.paths := by
  unfold fixCard; split <;> rfl

theorem blowEnds_paths (blown : Bool) (s : State) : (blowEnds blown s).paths = s.paths := by
  unfold blowEnds
  split
  · rfl
  · split <;> rfl

theorem mutesCard_paths (failAt : Option Nat) (h : Hand) (items : List Byte) (s : State) :
    (mutesCard failAt h items s).paths = s.paths := by
  unfold mutesCard
  split
  · rfl
  · split
    · rfl
    · simp only [muteRun, installFlags]
      split <;> simp [State.paths]

theorem cueLineCard_paths (h : Hand) (s : State) : (cueLineCard h s).paths = s.paths := by
  unfold cueLineCard; split <;> rfl

theorem lineSample_paths (x : Level) (s : State) : (lineSample x s).paths = s.paths := by
  have judged : ∀ u : State, (judgePulse u).paths = u.paths := by
    intro u
    unfold judgePulse
    split
    · simp [State.paths, bouncePulse]
    · rfl
  simp only [lineSample]
  split
  · split
    · exact judged _
    · rfl
  · rfl

theorem keepLong_paths (k : LongKind) (h : Hand) (s : State) : (keepLong k h s).paths = s.paths := by
  simp [State.paths]

theorem snapshotCard_paths (h : Hand) (s : State) : (snapshotCard h s).paths = s.paths := by
  have taken : ∀ r clear, (takeSnapshot r .card clear s).paths = s.paths := by
    intro r clear
    simp only [takeSnapshot]
    split <;> rfl
  unfold snapshotCard
  split
  · rfl
  · split
    · rfl
    · rfl
    · rfl
    · exact (keepLong_paths _ _ _).trans (taken _ _)

theorem pageWriteEnds_paths (ok : Bool) (s : State) : (pageWriteEnds ok s).paths = s.paths := by
  have ended : ∀ r hold u, (endSnapshot r hold u).paths = u.paths := by
    intro r hold u
    unfold endSnapshot
    split <;> simp [State.paths]
  unfold pageWriteEnds
  split
  · split
    · simp only []
      split
      · rfl
      · exact (ended _ _ _).trans rfl
    · exact (ended _ _ _).trans (by simp [State.paths])
  · rfl
  · rfl

theorem storeCardActs_paths (h : Hand) (s : State) : (storeCardActs h s).paths = s.paths := by
  unfold storeCardActs
  split
  · rfl
  · rfl
  · split <;> simp [State.paths, beginStore]

theorem eraseEnds_paths (s : State) : (eraseEnds s).paths = s.paths := by
  unfold eraseEnds
  split <;> simp [State.paths, setStoreState, clearEnds]

theorem programEnds_paths (faithful : Bool) (s : State) : (programEnds faithful s).paths = s.paths := by
  unfold programEnds; split <;> rfl

theorem verifyEnds_paths (answers : Bool) (s : State) : (verifyEnds answers s).paths = s.paths := by
  unfold verifyEnds
  split
  · split <;> simp [State.paths, verifyMatches, verifyFails]
  all_goals rfl

theorem install_paths (x : Loaded) (s : State) : (install x s).paths = s.paths := by simp [State.paths, install]

theorem loadEnds_paths (answers : Bool) (s : State) : (loadEnds answers s).paths = s.paths := by
  have faulted : ∀ c b u, (faultIf c b u).paths = u.paths := by
    intro c b u
    unfold faultIf
    split <;> simp [State.paths]
  unfold loadEnds
  split
  · simp only [loadImage, faulted, install_paths]
  · rfl

theorem reportCard_paths (h : Hand) (s : State) : (reportCard h s).paths = s.paths := by
  unfold reportCard
  split
  · simp only [reportBegins]
    split <;> rfl
  · rfl

theorem reportTransferEnds_paths (ok : Bool) (s : State) : (reportTransferEnds ok s).paths = s.paths := by
  unfold reportTransferEnds
  split
  · rfl
  · split
    · split
      · simp only []; split <;> rfl
      · rfl
    all_goals rfl

/-! ### Due ends and block ends -/

theorem fadeEnds_paths (s : State) : (fadeEnds s).paths = s.paths := by simp [State.paths, fadeEnds]

/-- What a due end does keeps the laws: an entry changed, an entry removed, or the paths left as they are. -/
theorem TableInv.dueEffect {s : State} (h : TableInv s) (d : Due) : TableInv (dueEffect d s) := by
  obtain ⟨table, standby⟩ := (tableInv_iff s).1 h
  cases d with
  | ramp k => exact (tableInv_iff _).2 ⟨table.updateEntry k entryKept_landRamp, standby⟩
  | removal k => exact (tableInv_iff _).2 ⟨table.removeEntry k, standby⟩
  | dipLow k => exact (tableInv_iff _).2 ⟨table.updateEntry k entryKept_lowPoint, standby⟩
  | dipUp k => exact (tableInv_iff _).2 ⟨table.updateEntry k entryKept_upEnd, standby⟩
  | fade => exact h.of_paths (fadeEnds_paths s)
  | silence p => exact h.of_paths rfl
  | ringHold p => exact h.of_paths rfl
  | meter => exact h.of_paths (by simp [State.paths, Machine.dueEffect])
  | holdoff => exact h.of_paths rfl

theorem TableInv.setDue {s : State} (h : TableInv s) (due : List Due) : TableInv (s.setDue due) := h.of_paths rfl

theorem TableInv.takeDue {s : State} (h : TableInv s) (d : Due) : TableInv (takeDue d s) := by
  unfold Machine.takeDue
  split
  · exact (h.setDue _).dueEffect d
  · exact h

theorem TableInv.takeAllDue {s : State} (h : TableInv s) : TableInv (takeAllDue s) :=
  List.foldlRecOn s.due (fun t d => Machine.dueEffect d t) (h.setDue []) fun _ ht d _ => TableInv.dueEffect ht d

theorem TableInv.settle {s : State} (h : TableInv s) : TableInv (settle s) := by
  have taken : TableInv (finishStopping (Machine.takeAllDue s)) := h.takeAllDue.of_paths (finishStopping_paths _)
  simp only [Machine.settle]
  split
  · exact taken.of_paths rfl
  · exact taken

theorem TableInv.settleButMeter {s : State} (h : TableInv s) : TableInv (settleButMeter s) :=
  (h.setDue _).settle.setDue _

/-- At a block end the ramp unit alone writes the table: each movement goes one step (R69, R90). -/
theorem TableInv.blockEndStep {s : State} (h : TableInv s) : TableInv (blockEndStep s) := by
  have ramps : TableInv (rampsAct s) := by
    obtain ⟨table, standby⟩ := (tableInv_iff s).1 h
    exact (tableInv_iff _).2 ⟨table.map entryKept_advance, standby⟩
  have fades : ∀ u : State, (fadeActs u).paths = u.paths := by
    intro u
    unfold fadeActs
    split
    · split <;> rfl
    · rfl
  have pickups : ∀ (b : Block) (u : State), (pickupsAct b u).paths = u.paths := by
    intro b u
    refine List.foldlRecOn (motive := fun t => t.paths = u.paths) _ (pickupActs b) rfl fun t ht i _ => ?_
    simp only [pickupActs]
    split
    · exact ht
    · exact ht
  have meters : ∀ (b : Block) (u : State), (metersAct b u).paths = u.paths := by
    intro b u
    simp only [metersAct]
    split
    · split
      · simp [State.paths]
      · split <;> simp [State.paths]
    · rfl
  have holdoffs : ∀ u : State, (holdoffActs u).paths = u.paths := by
    intro u
    unfold holdoffActs
    split
    · rfl
    · split <;> rfl
  have closes : ∀ (b : Block) (u : State), (closeBlock b u).paths = u.paths := by
    intro b u
    simp only [closeBlock]
    split <;> simp [State.paths]
  unfold Machine.blockEndStep
  split
  · rename_i b _
    refine ramps.of_paths ?_
    simp only [blockEnd, closes, holdoffs, meters, pickups, fades]
  · exact h

/-! ### The cards that stage, and the GO -/

theorem TableInv.stageCard {s : State} (h : TableInv s) (hand : Hand) (items : List Byte) :
    TableInv (stageCard hand items s) := by
  obtain ⟨table, standby⟩ := (tableInv_iff s).1 h
  have staged : TableInv (stageItems hand (pathItems hand items) s) := by
    refine (tableInv_iff _).2 ⟨table, ?_⟩
    simpa [stageItems] using standby.stageItems hand items
  unfold Machine.stageCard
  split
  · exact h.of_paths rfl
  · exact staged
  · exact staged

/-- STANDBY puts a header on the list and leaves its items (R49). -/
theorem TableInv.standbyCard {s : State} (h : TableInv s) (hand : Hand) : TableInv (standbyCard hand s) := by
  have headed : ∀ hd, TableInv (s.setStager { s.stager with standby := .ready s.stager.standby.items hd }) := fun _ =>
    (tableInv_iff _).2 ((tableInv_iff s).1 h)
  unfold Machine.standbyCard
  split
  · exact h.of_paths rfl
  all_goals
    split
    · exact h.of_paths rfl
    · exact (headed _).of_paths rfl

theorem TableInv.dropCard {s : State} (h : TableInv s) (hand : Hand) : TableInv (dropCard hand s) :=
  (tableInv_iff _).2 ⟨((tableInv_iff s).1 h).1, standbyFits_nil⟩

theorem announceGo_paths (fade : Nat) (s : State) : (announceGo fade s).paths = s.paths := by
  simp only [announceGo]
  split <;> simp [State.paths]

theorem refuseNotReady_paths (src : GoSource) (s : State) : (refuseNotReady src s).paths = s.paths := by
  simp only [refuseNotReady]
  split <;> simp [State.paths, Stager.refused]

theorem refuseCapacity_paths (src : GoSource) (r : Result) (dest : Nat) (s : State) :
    (refuseCapacity src r dest s).paths = s.paths := by
  simp only [refuseCapacity]
  split <;> simp [State.paths, Stager.refused]

/-- A GO that is executed has passed the capacity check; one that is refused leaves the paths (R51 to R57). -/
theorem TableInv.takeGo {s : State} (h : TableInv s) (src : GoSource) : TableInv (takeGo src s).1 := by
  unfold Machine.takeGo
  split
  · rename_i items hd ready
    split
    · rename_i room
      obtain ⟨table, standby⟩ := (tableInv_iff s).1 h
      rw [ready] at standby
      have merged : TableInv (mergeWrites src items hd s) :=
        (tableInv_iff _).2 ⟨table.mergedTable standby room s.budget hd, standbyFits_nil⟩
      exact merged.of_paths (announceGo_paths _ _)
    · exact h.of_paths (refuseCapacity_paths _ _ _ _)
  · exact h.of_paths (refuseNotReady_paths _ _)
  · exact h.of_paths (refuseNotReady_paths _ _)

theorem TableInv.goCard {s : State} (h : TableInv s) (hand : Hand) : TableInv (goCard hand s) :=
  (h.takeGo .card).of_paths rfl

theorem TableInv.takeLineGo {s : State} (h : TableInv s) : TableInv (takeLineGo s) :=
  TableInv.takeGo (s := s.setStager { s.stager with lineGos := s.stager.lineGos - 1 }) (h.of_paths rfl) .line

theorem TableInv.ceilingsCard {s : State} (h : TableInv s) (hand : Hand) (items : List Byte) :
    TableInv (ceilingsCard hand items s) := by
  obtain ⟨table, standby⟩ := (tableInv_iff s).1 h
  exact (tableInv_iff _).2 ⟨table.recomputedTable _ _ _, standby⟩

/-! ### Resets and register writes -/

/-- A reset empties table and standby list (R26, R66). -/
theorem tableInv_resetAll (powerOn : Bool) (s : State) : TableInv (resetAll powerOn s) :=
  (tableInv_iff _).2 ⟨tableFits_nil, standbyFits_nil⟩

theorem TableInv.writeControl {s : State} (h : TableInv s) (w : Word) : TableInv (writeControl w s) := by
  simp only [Machine.writeControl]
  split
  · exact tableInv_resetAll false s
  · refine h.of_paths ?_
    split <;> split <;>
      simp only [sweepNow_paths, writeRun1_paths, writeRun0_paths, writeVectorCount_paths, writeNoticeEnable_paths]

theorem TableInv.writeRegister {s : State} (h : TableInv s) (offset : Nat) (width : AccessWidth) (w : Word) :
    TableInv (writeRegister offset width w s) := by
  unfold Machine.writeRegister
  split
  · exact h
  · split
    · exact h.writeControl w
    · refine h.of_paths ?_
      split
      · rfl
      · split
        · rfl
        · split
          · rfl
          · split <;> rfl

end Sys2Proof.Machine
end

section
/-! `TableInv` through a command and a step. -/
namespace Sys2Proof.Machine

/-! ### Every command, every step -/

/-- Every next state of an outcome meets a predicate. -/
def NextMeets (P : State → Prop) (o : Host.Outcome State Fault Refusal) : Prop := ∀ t, o = .next t → P t

theorem nextMeets_next {P : State → Prop} {t : State} (h : P t) : NextMeets P (.next t) := by
  rintro u ⟨⟩
  exact h

/-- A command of a card acts where its card waits for its unit, and otherwise leaves the state. -/
theorem nextMeets_card {P : State → Prop} {s : State} (hs : P s) (k : CardKind) {act : Hand → List Byte → State}
    (hact : ∀ h items, P (act h items)) :
    NextMeets P (match s.actingOn k with
      | some (h, items) => .next (act h items)
      | none => .next s) := by
  split
  · exact nextMeets_next (hact _ _)
  · exact nextMeets_next hs

/-- What every command keeps, and what does not rest on the queue, every step keeps. -/
theorem step_keeps {P : State → Prop} (queue : ∀ s q, P s → P (s.withQueue q))
    (command : ∀ c s, P s → NextMeets P (exec c s)) {s t : State} (hs : P s) (h : step s = .next t) : P t := by
  unfold step at h
  split at h
  · cases h; exact hs
  · exact command _ _ (queue s _ hs) t h

/-- Every command keeps the laws of the path table and of the standby list (R13, R44). -/
theorem exec_keeps_tableInv (c : Instr) (s : State) (hs : TableInv s) : NextMeets TableInv (exec c s) := by
  have settled : TableInv (settle s) := hs.settle
  have leaves : ∀ {t : State}, t.paths = (settle s).paths → NextMeets TableInv (.next t) := fun same =>
    nextMeets_next (settled.of_paths same)
  have guarded : ∀ {t u : State} (b : Bool), u.paths = t.paths → (if b then u else t).paths = t.paths := by
    intro t u b same
    cases b
    · rfl
    · exact same
  cases c with
  | powerOnReset => exact nextMeets_next (tableInv_resetAll _ _)
  | linkReset => exact nextMeets_next (tableInv_resetAll _ _)
  | engineReset => exact nextMeets_next (tableInv_resetAll _ _)
  | storeLoadEnd answers => exact leaves (loadEnds_paths _ _)
  | runStart => exact leaves (writeRun1_paths _)
  | runStop => exact leaves (writeRun0_paths _)
  | noticeEnable on => exact leaves (writeNoticeEnable_paths _ _)
  | vectorCount code => exact leaves (writeVectorCount_paths _ _)
  | sweepNow => exact leaves (sweepNow_paths _)
  | noticeMaskWrite value => exact leaves rfl
  | faultClear value => exact leaves rfl
  | registerWrite offset width value => exact nextMeets_next (settled.writeRegister _ _ _)
  | rootReadEnd data => exact leaves (rootRead_paths _ _)
  | stoppingEnd => exact leaves (finishStopping_paths _)
  | clockLoss => exact leaves (loseClock_paths _)
  | clockReturn => exact leaves (returnClock_paths _)
  | laneLock lane => exact leaves (guarded _ rfl)
  | laneLoss lane => exact leaves (guarded _ (loseLane_paths _ _))
  | blockEnd => exact nextMeets_next settled.blockEndStep
  | rampEnd key => exact nextMeets_next (hs.takeDue _)
  | entryRemoval key => exact nextMeets_next (hs.takeDue _)
  | dipLowPoint key => exact nextMeets_next (hs.takeDue _)
  | dipUpEnd key => exact nextMeets_next (hs.takeDue _)
  | fadeEnd => exact nextMeets_next (hs.takeDue _)
  | silenceLimit pickup => exact nextMeets_next (hs.takeDue _)
  | ringHoldEnd pickup => exact nextMeets_next (hs.takeDue _)
  | meterIntervalExpiry => exact nextMeets_next (hs.takeDue _)
  | holdoffExpiry => exact nextMeets_next (hs.takeDue _)
  | meterPageWriteEnd ok => exact leaves (pageWriteEnds_paths _ _)
  | cueLineSample level => exact leaves (lineSample_paths _ _)
  | lineGo =>
    refine nextMeets_next ?_
    split
    · exact settled.takeLineGo
    · exact settled
  | sweepTimerExpiry =>
    refine leaves ?_
    split <;> rfl
  | slotRead data => exact leaves (slotReadEnds_paths _ _)
  | itemListRead data => exact leaves (itemListEnds_paths _ _)
  | cardWriteEnd ok => exact leaves (cardWriteEnds_paths _ _)
  | sweepEnd => exact leaves (guarded _ (endSweep_paths _))
  | stage => exact nextMeets_card settled .stage settled.stageCard
  | standby => exact nextMeets_card settled .standby fun h _ => settled.standbyCard h
  | dropStandby => exact nextMeets_card settled .dropStandby fun h _ => settled.dropCard h
  | go => exact nextMeets_card settled .go fun h _ => settled.goCard h
  | ceilings => exact nextMeets_card settled .ceilings settled.ceilingsCard
  | tails => exact nextMeets_card settled .tails fun h items => settled.of_paths rfl
  | patches => exact nextMeets_card settled .patches fun h items => settled.of_paths rfl
  | pickups => exact nextMeets_card settled .pickups fun h items => settled.of_paths rfl
  | mutes failAt => exact nextMeets_card settled .mutes fun h items => settled.of_paths (mutesCard_paths _ _ _ _)
  | snapshot =>
    exact nextMeets_card hs.settleButMeter .snapshot fun h _ => hs.settleButMeter.of_paths (snapshotCard_paths _ _)
  | cueLine => exact nextMeets_card settled .cueLine fun h _ => settled.of_paths (cueLineCard_paths _ _)
  | setCode =>
    exact nextMeets_card settled .protect fun h _ => settled.protectCard _ (fun _ _ => protectDone_paths _ _ _) h
  | unlock =>
    exact nextMeets_card settled .protect fun h _ => settled.protectCard _ (fun _ _ => protectDone_paths _ _ _) h
  | relock =>
    exact nextMeets_card settled .protect fun h _ => settled.protectCard _ (fun _ _ => protectDone_paths _ _ _) h
  | clearCode =>
    exact nextMeets_card settled .protect fun h _ => settled.protectCard _ (fun _ _ => protectDone_paths _ _ _) h
  | fix => exact nextMeets_card settled .protect fun h _ => settled.protectCard _ fixCard_paths h
  | fuseBlowEnd blown => exact leaves (blowEnds_paths _ _)
  | store => exact nextMeets_card settled .store fun h _ => settled.of_paths (storeCardActs_paths _ _)
  | storeEraseEnd => exact leaves (eraseEnds_paths _)
  | storeProgramEnd faithful => exact leaves (programEnds_paths _ _)
  | storeVerifyEnd answers => exact leaves (verifyEnds_paths _ _)
  | report => exact nextMeets_card settled .report fun h _ => settled.of_paths (reportCard_paths _ _)
  | reportTransferEnd ok => exact leaves (reportTransferEnds_paths _ _)
  | longCardCompletion which failAt => exact leaves (longEnds_paths _ _ _)
  | progressWriteEnd ok => exact leaves (progressEnded_paths _ _)
  | noticeWriteEnd ok => exact leaves (noticeEnded_paths _ _)
  | sampleComputation lanes markers => exact leaves (samplePeriod_paths _ _ _)

/-- Settles O5: every command keeps the laws, and they do not speak of the queue. -/
theorem pathTableStaysWithinLimits : Obligations.PathTableStaysWithinLimits := fun _ _ hs h =>
  step_keeps (fun _ _ hs => hs.of_paths rfl) exec_keeps_tableInv hs h

end Sys2Proof.Machine
end

section
/-! The laws of the loop-gain budget, of a table and its ceilings: what the budget unit's two stages make them, and what a
change of entries keeps. -/
namespace Sys2Proof.Machine

/-! ### The laws of the budget, of a table (R32) -/

/-- The two laws of the budget, of a table under ceilings (R32). -/
structure BudgetFits (ceilings : Vector Nat 96) (table : List Entry) : Prop where
  tails : ∀ t, tailWeight table t ≤ 32768
  emitters : ∀ em : Fin 96, targetSum table em ≤ ceilings[em] * 16384

theorem budgetFits_nil (ceilings : Vector Nat 96) : BudgetFits ceilings [] where
  tails _ := Nat.zero_le _
  emitters _ := Nat.zero_le _

/-! ### Sums over a table whose entries change -/

/-- Where entries leave a table, and those that stay keep their test and count no more, the sum does not grow. -/
theorem sumOver_filterMap_le {test : Entry → Bool} {x y : Entry → Nat} {f : Entry → Option Entry}
    (same : ∀ e e', f e = some e' → test e' = test e) (le : ∀ e e', f e = some e' → test e = true → y e' ≤ x e)
    (table : List Entry) : sumOver test y (table.filterMap f) ≤ sumOver test x table := by
  unfold sumOver
  induction table with
  | nil => simp
  | cons e es ih =>
    cases hf : f e with
    | none =>
      rw [List.filterMap_cons_none hf, List.filter_cons]
      split
      · simp only [List.map_cons, List.sum_cons]; omega
      · exact ih
    | some e' =>
      rw [List.filterMap_cons_some hf, List.filter_cons, List.filter_cons, same e e' hf]
      split
      · next counts =>
        have := le e e' hf counts
        simp only [List.map_cons, List.sum_cons]
        omega
      · exact ih

theorem sumOver_map_le {test : Entry → Bool} {x y : Entry → Nat} {f : Entry → Entry}
    (same : ∀ e, test (f e) = test e) (le : ∀ e, test e = true → y (f e) ≤ x e) (table : List Entry) :
    sumOver test y (table.map f) ≤ sumOver test x table := by
  rw [← List.filterMap_eq_map]
  refine sumOver_filterMap_le ?_ ?_ table
  · rintro e _ ⟨⟩; exact same e
  · rintro e _ ⟨⟩; exact le e

theorem sumOver_mul (test : Entry → Bool) (x : Entry → Nat) (c : Nat) (table : List Entry) :
    sumOver test (fun e => c * x e) table = c * sumOver test x table := by
  unfold sumOver
  exact List.sum_map_mul_left ..

/-- The idea of both stages (R30, R31): values whose sum exceeds a bound are each scaled by bound over sum, rounded toward 0,
and then sum to at most the bound. -/
theorem sumOver_scaled_le {test : Entry → Bool} {x y : Entry → Nat} {f : Entry → Entry} {table : List Entry} {bound : Nat}
    (same : ∀ e, test (f e) = test e) (le : ∀ e, test e = true → y (f e) ≤ x e)
    (scaled : bound < sumOver test x table → ∀ e, test e = true → sumOver test x table * y (f e) ≤ bound * x e) :
    sumOver test y (table.map f) ≤ bound := by
  by_cases fits : sumOver test x table ≤ bound
  · exact (sumOver_map_le same le table).trans fits
  · have exceeds : bound < sumOver test x table := Nat.lt_of_not_le fits
    have products := sumOver_map_le (x := fun e => bound * x e) (y := fun e => sumOver test x table * y e) same
      (scaled exceeds) table
    rw [sumOver_mul, sumOver_mul, Nat.mul_comm bound] at products
    exact Nat.le_of_mul_le_mul_left products (by omega)

/-! ### The targets the stages give (R30, R31) -/

theorem natAbs_tdiv_mul (r : Int) (bound total : Nat) :
    (Int.tdiv (r * (bound : Int)) (total : Int)).natAbs = r.natAbs * bound / total := by
  rw [Int.natAbs_tdiv, Int.natAbs_mul, Int.natAbs_natCast, Int.natAbs_natCast]
  rfl

theorem mul_div_le_of_le (r : Nat) {bound total : Nat} (h : bound ≤ total) : r * bound / total ≤ r :=
  Nat.div_le_of_le_mul (by rw [Nat.mul_comm total]; exact Nat.mul_le_mul_left r h)

/-- No target is greater in magnitude than the gain requested. -/
theorem tailTarget_natAbs_le (total : Nat) (r : Int) : (tailTarget total r).natAbs ≤ r.natAbs := by
  unfold tailTarget
  split
  · exact Nat.le_refl _
  · rw [show (32768 : Int) = ((32768 : Nat) : Int) from rfl, natAbs_tdiv_mul]
    exact mul_div_le_of_le _ (by omega)

theorem mul_tailTarget_le {total : Nat} (h : 32768 < total) (r : Int) :
    total * (tailTarget total r).natAbs ≤ 32768 * r.natAbs := by
  rw [tailTarget, if_neg (by omega), show (32768 : Int) = ((32768 : Nat) : Int) from rfl, natAbs_tdiv_mul,
    Nat.mul_comm 32768]
  exact Nat.mul_div_le _ _

theorem emitterTarget_natAbs_le (c total : Nat) (r : Int) : (emitterTarget c total r).natAbs ≤ r.natAbs := by
  unfold emitterTarget
  split
  · exact Nat.zero_le _
  · split
    · exact Nat.le_refl _
    · rw [natAbs_tdiv_mul]
      exact mul_div_le_of_le _ (by omega)

theorem mul_emitterTarget_le {c total : Nat} (h : c * 16384 < total) (r : Int) :
    total * (emitterTarget c total r).natAbs ≤ c * 16384 * r.natAbs := by
  unfold emitterTarget
  split
  · simp
  · rw [if_neg (by omega), natAbs_tdiv_mul, Nat.mul_comm (c * 16384)]
    exact Nat.mul_div_le _ _

/-! ### The tail stage -/

/-- What the tail stage makes of an entry (R30). -/
def tailClamped (table : List Entry) (e : Entry) : Entry :=
  match destTail e.key with
  | some t => { e with target := tailTarget (tailSum table t) e.requested }
  | none => e

theorem tailStage_eq (table : List Entry) : tailStage table = table.map (tailClamped table) := rfl

theorem tailClamped_key (table : List Entry) (e : Entry) : (tailClamped table e).key = e.key := by
  unfold tailClamped; split <;> rfl

theorem tailClamped_target {table : List Entry} {t : Fin 16} {e : Entry} (h : intoTail t e = true) :
    (tailClamped table e).target = tailTarget (tailSum table t) e.requested := by
  simp only [tailClamped, of_decide_eq_true h]

/-- After the tail stage every tail meets its law (R30, R32). -/
theorem tailWeight_tailStage (table : List Entry) (t : Fin 16) : tailWeight (tailStage table) t ≤ 32768 := by
  rw [tailStage_eq]
  refine sumOver_scaled_le (x := fun e => e.requested.natAbs) (fun e => ?_) (fun e h => ?_) (fun exceeds e h => ?_)
  · simp only [intoTail, tailClamped_key]
  · rw [tailClamped_target h]
    exact tailTarget_natAbs_le _ _
  · rw [tailClamped_target h]
    exact mul_tailTarget_le exceeds _

/-! ### The emitter stage -/

/-- What the emitter stage makes of an entry (R31, R39). -/
def emitterClamped (ceilings : Vector Nat 96) (chosen : Fin 96 → Bool) (table : List Entry) (e : Entry) : Entry :=
  match destEmitter e.key with
  | some em =>
    if chosen em then { e with target := emitterTarget ceilings[em] (emitterSum table em) e.requested } else e
  | none => e

theorem emitterStage_eq (ceilings : Vector Nat 96) (chosen : Fin 96 → Bool) (table : List Entry) :
    emitterStage ceilings chosen table = table.map (emitterClamped ceilings chosen table) := rfl

section
variable (ceilings : Vector Nat 96) (chosen : Fin 96 → Bool) (table : List Entry)

theorem emitterClamped_key (e : Entry) : (emitterClamped ceilings chosen table e).key = e.key := by
  unfold emitterClamped
  split
  · split <;> rfl
  · rfl

theorem emitterClamped_of_intoTail {t : Fin 16} {e : Entry} (h : intoTail t e = true) :
    emitterClamped ceilings chosen table e = e := by
  have noEmitter : destEmitter e.key = none := by
    have into := of_decide_eq_true h
    cases hk : e.key with
    | pickupToTail => rfl
    | pickupToEmitter | tailToEmitter => simp [hk, destTail] at into
  simp only [emitterClamped, noEmitter]

theorem emitterClamped_of_not_chosen {em : Fin 96} {e : Entry} (h : intoEmitter em e = true) (hc : chosen em = false) :
    emitterClamped ceilings chosen table e = e := by
  simp [emitterClamped, of_decide_eq_true h, hc]

theorem emitterClamped_target {em : Fin 96} {e : Entry} (h : intoEmitter em e = true) (hc : chosen em = true) :
    (emitterClamped ceilings chosen table e).target = emitterTarget ceilings[em] (emitterSum table em) e.requested := by
  simp [emitterClamped, of_decide_eq_true h, hc]

theorem intoEmitter_emitterClamped (em : Fin 96) (e : Entry) :
    intoEmitter em (emitterClamped ceilings chosen table e) = intoEmitter em e := by
  simp only [intoEmitter, emitterClamped_key]

/-- The emitter stage leaves the targets into the tails (R31). -/
theorem tailWeight_emitterStage (t : Fin 16) :
    tailWeight (emitterStage ceilings chosen table) t ≤ tailWeight table t := by
  rw [emitterStage_eq]
  refine sumOver_map_le (fun e => ?_) (fun e h => ?_) table
  · simp only [intoTail, emitterClamped_key]
  · rw [emitterClamped_of_intoTail _ _ _ h]

end

/-- A source weighs no more in one table than in another where each tail weighs no more. -/
theorem sourceWeight_le {t u : List Entry} (le : ∀ i, tailWeight u i ≤ tailWeight t i) {e e' : Entry}
    (key : e'.key = e.key) : sourceWeight u e' ≤ sourceWeight t e := by
  unfold sourceWeight
  rw [key]
  split
  · exact le _
  · exact Nat.le_refl _

/-- After the emitter stage an emitter that it took meets its law (R31, R32). -/
theorem targetSum_emitterStage_chosen (ceilings : Vector Nat 96) {chosen : Fin 96 → Bool} (table : List Entry) {em : Fin 96}
    (hc : chosen em = true) : targetSum (emitterStage ceilings chosen table) em ≤ ceilings[em] * 16384 := by
  have weight (e : Entry) :=
    sourceWeight_le (tailWeight_emitterStage ceilings chosen table) (emitterClamped_key ceilings chosen table e)
  rw [emitterStage_eq]
  refine sumOver_scaled_le (x := fun e => e.requested.natAbs * sourceWeight table e)
    (intoEmitter_emitterClamped ceilings chosen table em) (fun e h => ?_) (fun exceeds e h => ?_)
  · rw [emitterClamped_target ceilings chosen table h hc]
    exact Nat.mul_le_mul (emitterTarget_natAbs_le _ _ _) (weight e)
  · rw [emitterClamped_target ceilings chosen table h hc, ← Nat.mul_assoc, ← Nat.mul_assoc]
    exact Nat.mul_le_mul (mul_emitterTarget_le exceeds _) (weight e)

/-- An emitter that the stage did not take stands as it did (R39). -/
theorem targetSum_emitterStage_not_chosen (ceilings : Vector Nat 96) {chosen : Fin 96 → Bool} (table : List Entry)
    {em : Fin 96} (hc : chosen em = false) : targetSum (emitterStage ceilings chosen table) em ≤ targetSum table em := by
  refine sumOver_map_le (intoEmitter_emitterClamped ceilings chosen table em) (fun e h => ?_) table
  rw [show emitterClamped ceilings chosen table e = e from emitterClamped_of_not_chosen ceilings chosen table h hc]
  exact Nat.mul_le_mul_left _ (sourceWeight_le (tailWeight_emitterStage ceilings chosen table) rfl)

/-- A full computation makes any table meet the laws (R32, R36). -/
theorem budgetFits_fullBudget (b : Budget) (table : List Entry) : BudgetFits b.ceilings (fullBudget b table) where
  tails t := (tailWeight_emitterStage _ _ _ t).trans (tailWeight_tailStage table t)
  emitters _ := targetSum_emitterStage_chosen _ _ rfl

/-- A partial computation keeps the laws where it takes every emitter whose ceiling has changed (R38, R39). -/
theorem BudgetFits.emitterStage {before after : Vector Nat 96} {table : List Entry} (h : BudgetFits before table)
    {chosen : Fin 96 → Bool} (stands : ∀ em : Fin 96, chosen em = false → after[em] = before[em]) :
    BudgetFits after (emitterStage after chosen table) where
  tails t := (tailWeight_emitterStage _ _ _ t).trans (h.tails t)
  emitters em := by
    cases hc : chosen em with
    | true => exact targetSum_emitterStage_chosen _ _ hc
    | false =>
      rw [stands em hc]
      exact (targetSum_emitterStage_not_chosen _ _ hc).trans (h.emitters em)

/-! ### Movements leave what the budget counts -/

/-- What the laws of the budget count of an entry: its key and its target gain. -/
def Entry.counted (e : Entry) : Key × Int := (e.key, e.target)

/-- Changes that leave key and target, and the leaving of entries, keep the laws (R16, R32). -/
theorem BudgetFits.filterMap {ceilings : Vector Nat 96} {table : List Entry} (h : BudgetFits ceilings table)
    {f : Entry → Option Entry} (hf : ∀ e e', f e = some e' → e'.counted = e.counted) :
    BudgetFits ceilings (table.filterMap f) := by
  have key {e e' : Entry} (he : f e = some e') : e'.key = e.key := congrArg Prod.fst (hf e e' he)
  have target {e e' : Entry} (he : f e = some e') : e'.target = e.target := congrArg Prod.snd (hf e e' he)
  have tails (t : Fin 16) : tailWeight (table.filterMap f) t ≤ tailWeight table t :=
    sumOver_filterMap_le (fun e e' he => by simp only [intoTail, key he]) (fun e e' he _ => by rw [target he]) table
  refine ⟨fun t => (tails t).trans (h.tails t), fun em => le_trans ?_ (h.emitters em)⟩
  refine sumOver_filterMap_le (fun e e' he => by simp only [intoEmitter, key he]) (fun e e' he _ => ?_) table
  rw [target he]
  exact Nat.mul_le_mul_left _ (sourceWeight_le tails (key he))

theorem BudgetFits.map {ceilings : Vector Nat 96} {table : List Entry} (h : BudgetFits ceilings table) {f : Entry → Entry}
    (hf : ∀ e, (f e).counted = e.counted) : BudgetFits ceilings (table.map f) := by
  rw [← List.filterMap_eq_map]
  refine h.filterMap ?_
  rintro e _ ⟨⟩
  exact hf e

theorem BudgetFits.updateEntry {ceilings : Vector Nat 96} {table : List Entry} (h : BudgetFits ceilings table) (k : Key)
    {f : Entry → Entry} (hf : ∀ e, (f e).counted = e.counted) : BudgetFits ceilings (updateEntry k f table) := by
  refine h.map fun e => ?_
  split
  · exact hf e
  · rfl

theorem BudgetFits.removeEntry {ceilings : Vector Nat 96} {table : List Entry} (h : BudgetFits ceilings table) (k : Key) :
    BudgetFits ceilings (removeEntry k table) := by
  unfold Machine.removeEntry
  rw [← List.filterMap_eq_filter]
  refine h.filterMap fun e e' he => ?_
  obtain ⟨rfl, _⟩ := Option.guard_eq_some_iff.1 he
  rfl

theorem ordinaryRamp_counted (n : Nat) (e : Entry) : (ordinaryRamp n e).counted = e.counted := by
  unfold ordinaryRamp; split <;> rfl

theorem dipTo_counted (n d : Nat) (e : Entry) : (dipTo n d e).counted = e.counted := by
  unfold dipTo
  split
  · exact ordinaryRamp_counted n _
  · rfl

theorem goMovement_counted (n : Nat) (asked : Option Nat) (e : Entry) : (goMovement n asked e).counted = e.counted := by
  unfold goMovement
  extract_lets wanted dipping
  split
  · exact dipTo_counted n wanted e
  · split
    · exact ordinaryRamp_counted n e
    · split
      · exact ordinaryRamp_counted n e
      · rfl

theorem handMovement_counted {n : Nat} {asked : Option Nat} {e e' : Entry} (h : handMovement n asked e = some e') :
    e'.counted = e.counted := by
  cases hm : e.motion with
  | retiring =>
    simp only [handMovement, hm, retiringRamp] at h
    split at h
    · cases h
    · cases h; rfl
  | settled | ramping | dipDown | dipUp =>
    obtain rfl : goMovement n asked e = e' := by simpa only [handMovement, hm, Option.some.injEq] using h
    exact goMovement_counted n asked e

theorem ceilingMovement_counted (m : Nat) (e : Entry) : (ceilingMovement m e).counted = e.counted := by
  cases hm : e.motion with
  | retiring => simp only [ceilingMovement, hm]
  | dipDown => simp only [ceilingMovement, hm, dipTo_counted]
  | dipUp =>
    simp only [ceilingMovement, hm]
    split
    · rfl
    · split <;> rfl
  | settled | ramping =>
    simp only [ceilingMovement, hm]
    split
    · rfl
    · exact ordinaryRamp_counted m e

theorem Entry.advance_counted (e : Entry) : e.advance.counted = e.counted :=
  congrArg₂ Prod.mk e.advance_key e.advance_target

theorem Entry.lowPoint_counted (e : Entry) : e.lowPoint.counted = e.counted :=
  congrArg₂ Prod.mk e.lowPoint_key e.lowPoint_target

/-- The table a merge leaves meets the laws, whatever it was before (R32, R36, R57). -/
theorem budgetFits_mergedTable (b : Budget) (table : List Entry) (items : List StandbyItem) (hd : Header) :
    BudgetFits b.ceilings (mergedTable b table items hd) :=
  (budgetFits_fullBudget b _).filterMap fun _ _ => handMovement_counted

/-- The ceiling writes of a CEILINGS card leave every ceiling outside the recompute set (R38). -/
theorem ceilingItem_stands {p : ProtState} {before : Vector Nat 96} {x y : Vector Nat 96 × Vector Bool 96} {i : CeilingItem}
    (h : ceilingItem p x i = .ok y) (stands : ∀ em : Fin 96, x.2[em] = false → x.1[em] = before[em]) :
    ∀ em : Fin 96, y.2[em] = false → y.1[em] = before[em] := by
  unfold ceilingItem at h
  split at h
  · split at h
    · cases h
    · cases h
      intro em out
      by_cases same : i.emitter = em.val
      · simp [same] at out
      · simpa [Vector.getElem_set, same] using stands em (by simpa [Vector.getElem_set, same] using out)
  · cases h

/-- A recomputation under new ceilings keeps the laws (R32, R38 to R40). -/
theorem BudgetFits.recomputedTable {before : Vector Nat 96} {table : List Entry} (h : BudgetFits before table) {b : Budget}
    {chosen : Fin 96 → Bool} (stands : ∀ em : Fin 96, chosen em = false → b.ceilings[em] = before[em]) (fade : Nat) :
    BudgetFits b.ceilings (recomputedTable b chosen fade table) := by
  refine (h.emitterStage stands).map fun e => ?_
  split
  · split
    · exact ceilingMovement_counted fade e
    · rfl
  · rfl

end Sys2Proof.Machine
end

section
/-! Which operations leave what `BudgetInv` speaks of, and what the others keep of it. -/
namespace Sys2Proof.Machine

/-! ### The laws of `BudgetInv` in two parts: the table under its ceilings, and LOADING -/

theorem BudgetInv.fits {s : State} (h : BudgetInv s) : BudgetFits s.budget.ceilings s.table := ⟨h.tails, h.emitters⟩

/-- Outside LOADING the law is that of the table alone. -/
theorem budgetInv_of_awake {s : State} (fits : BudgetFits s.budget.ceilings s.table) (awake : s.engine.state ≠ .loading) :
    BudgetInv s where
  idle loading := absurd loading awake
  empty loading := absurd loading awake
  tails := fits.tails
  emitters := fits.emitters

/-- What most commands leave: the engine, and the ceilings. -/
def State.limits (s : State) : Engine × Vector Nat 96 := (s.engine, s.budget.ceilings)

/-- What the commands leave that have nothing to do with cards: the engine, the ceilings, the reader state and the card in
hand. -/
def State.stance (s : State) : (Engine × Vector Nat 96) × ReaderState × Option Hand :=
  (s.limits, s.reader.state, s.reader.hand)

section
variable {s t : State}

theorem table_of_paths (same : t.paths = s.paths) : t.table = s.table := congrArg Prod.fst same

theorem engine_of_limits (same : t.limits = s.limits) : t.engine = s.engine := congrArg Prod.fst same

theorem ceilings_of_limits (same : t.limits = s.limits) : t.budget.ceilings = s.budget.ceilings := congrArg Prod.snd same

end

/-- A command that leaves the engine past LOADING need leave no more than table and ceilings. -/
theorem BudgetInv.of_awake {s t : State} (h : BudgetInv s) (table : t.table = s.table)
    (ceilings : t.budget.ceilings = s.budget.ceilings) (awake : t.engine.state ≠ .loading) : BudgetInv t :=
  budgetInv_of_awake (by rw [table, ceilings]; exact h.fits) awake

theorem BudgetInv.of_stance {s t : State} (h : BudgetInv s) (paths : t.paths = s.paths) (stance : t.stance = s.stance) :
    BudgetInv t := by
  obtain ⟨limits, rest⟩ := Prod.mk.inj stance
  obtain ⟨reader, hand⟩ := Prod.mk.inj rest
  have engine := engine_of_limits limits
  have ceilings := ceilings_of_limits limits
  have table := table_of_paths paths
  obtain ⟨idle, empty, tails, emitters⟩ := h
  constructor
  · rwa [LoadingIdle, engine, reader, hand]
  · rwa [engine, table]
  · rwa [table]
  · rwa [table, ceilings]

/-- A command that does nothing with the reader OFF and no card in hand may do with the reader what it will otherwise. -/
theorem BudgetInv.of_limits {s t : State} (h : BudgetInv s) (paths : t.paths = s.paths) (limits : t.limits = s.limits)
    (rests : s.reader.state = .off → s.reader.hand = none → t = s) : BudgetInv t := by
  by_cases loading : s.engine.state = .loading
  · obtain ⟨off, none⟩ := h.idle loading
    rwa [rests off none]
  · exact h.of_awake (table_of_paths paths) (ceilings_of_limits limits) (engine_of_limits limits ▸ loading)

/-- While LOADING no card is in hand, so a card in hand shows that the engine is past it. -/
theorem BudgetInv.awake_of_hand {s : State} (h : BudgetInv s) {x : Hand} (hand : s.reader.hand = some x) :
    s.engine.state ≠ .loading := by
  intro loading
  obtain ⟨_, none⟩ := h.idle loading
  rw [none] at hand
  cases hand

/-- A command about the card in hand may do with the reader what it will. -/
theorem BudgetInv.of_hand {s t : State} (h : BudgetInv s) {x : Hand} (hand : s.reader.hand = some x)
    (table : t.table = s.table) (limits : t.limits = s.limits) : BudgetInv t :=
  h.of_awake table (ceilings_of_limits limits) (engine_of_limits limits ▸ h.awake_of_hand hand)

/-! ### Run control, resets and registers -/

/-- The end of STOPPING leaves the engine STARTING or STOPPED (R87). -/
theorem finishStopping_awake {s : State} (awake : s.engine.state ≠ .loading) :
    (finishStopping s).engine.state ≠ .loading := by
  unfold finishStopping endStopping
  split
  · split <;> exact nofun
  · exact awake

theorem BudgetInv.finishStopping {s : State} (h : BudgetInv s) : BudgetInv (finishStopping s) := by
  by_cases loading : s.engine.state = .loading
  · have stays : Machine.finishStopping s = s := by simp [Machine.finishStopping, stoppingDone, loading]
    rwa [stays]
  · exact h.of_awake (table_of_paths (finishStopping_paths s)) (by simp) (finishStopping_awake loading)

theorem stopReader_limits (s : State) : (stopReader s).limits = s.limits := by
  unfold stopReader
  split
  · rfl
  · rfl
  · rfl
  · split <;> simp [State.limits]

theorem BudgetInv.enterStopping {s : State} (h : BudgetInv s) : BudgetInv (enterStopping s) := by
  have engine (u : State) : (stopReader u).engine = u.engine := engine_of_limits (stopReader_limits u)
  have ceilings (u : State) : (stopReader u).budget.ceilings = u.budget.ceilings := ceilings_of_limits (stopReader_limits u)
  refine h.of_awake (table_of_paths (enterStopping_paths s)) ?_ (finishStopping_awake ?_)
  · simp only [Machine.enterStopping, finishStopping_budget]
    split <;> simp [ceilings]
  · split <;> simp [engine]

theorem BudgetInv.writeRun1 {s : State} (h : BudgetInv s) : BudgetInv (writeRun1 s) := by
  unfold Machine.writeRun1
  split
  · exact h
  · exact h
  · split
    · exact h
    · exact h.of_awake rfl rfl nofun
  · next starting => exact h.of_awake rfl rfl (by simp [starting])
  · next stopping => exact h.of_awake rfl rfl (by simp [stopping])

theorem BudgetInv.writeRun0 {s : State} (h : BudgetInv s) : BudgetInv (writeRun0 s) := by
  unfold Machine.writeRun0
  split
  · exact h
  · exact h.enterStopping
  · next stopped => exact h.of_awake rfl rfl (by simp [stopped])
  · next starting => exact h.of_awake rfl rfl (by simp [starting])
  · next stopping => exact h.of_awake rfl rfl (by simp [stopping])

/-- A root read that is waited for leaves the engine RUNNING or STOPPED (R86, R163). -/
theorem BudgetInv.rootRead {s : State} (h : BudgetInv s) (data : LinkRead 64) : BudgetInv (rootRead data s) := by
  unfold Machine.rootRead
  split
  · split
    · exact h.of_awake (by simp [failStart]) (by simp [failStart]) (by simp [failStart])
    · split
      · exact h.of_awake rfl rfl nofun
      · exact h.of_awake rfl rfl nofun
  · exact h

theorem writeNoticeEnable_stance (on : Bool) (s : State) : (writeNoticeEnable on s).stance = s.stance := by
  unfold writeNoticeEnable; split <;> rfl

theorem writeVectorCount_stance (code : BitVec 2) (s : State) : (writeVectorCount code s).stance = s.stance := by
  unfold writeVectorCount; split <;> rfl

theorem sweepNow_limits (s : State) : (sweepNow s).limits = s.limits := by
  unfold sweepNow; split <;> rfl

theorem BudgetInv.sweepNow {s : State} (h : BudgetInv s) : BudgetInv (sweepNow s) :=
  h.of_limits (sweepNow_paths s) (sweepNow_limits s) fun off _ => by simp only [Machine.sweepNow, off]

/-- A reset empties the table and leaves the reader OFF with no card in hand (R26, R171). -/
theorem budgetInv_resetAll (powerOn : Bool) (s : State) : BudgetInv (resetAll powerOn s) where
  idle _ := ⟨rfl, rfl⟩
  empty _ := rfl
  tails := (budgetFits_nil s.budget.ceilings).tails
  emitters := (budgetFits_nil _).emitters

theorem BudgetInv.writeControl {s : State} (h : BudgetInv s) (w : Word) : BudgetInv (writeControl w s) := by
  unfold Machine.writeControl
  split
  · exact budgetInv_resetAll false s
  · extract_lets t u
    have fields : BudgetInv t := (h.of_stance (writeNoticeEnable_paths _ _) (writeNoticeEnable_stance _ _)).of_stance
      (writeVectorCount_paths _ _) (writeVectorCount_stance _ _)
    have run : BudgetInv u := by
      simp only [u]
      split
      · exact fields.writeRun1
      · exact fields.writeRun0
    split
    · exact run.sweepNow
    · exact run

theorem BudgetInv.writeRegister {s : State} (h : BudgetInv s) (offset : Nat) (width : AccessWidth) (w : Word) :
    BudgetInv (writeRegister offset width w s) := by
  unfold Machine.writeRegister
  split
  · exact h
  · split
    · exact h.writeControl w
    · split
      · exact h.of_stance rfl rfl
      · split
        · exact h.of_stance rfl rfl
        · split
          · exact h.of_stance rfl rfl
          · split
            · exact h.of_stance rfl rfl
            · exact h

/-- A load ends LOADING on an empty table, which meets the laws under whatever ceilings it installs (R26, R192). -/
theorem BudgetInv.loadEnds {s : State} (h : BudgetInv s) (answers : Bool) : BudgetInv (loadEnds answers s) := by
  have faulted : ∀ c b u, (faultIf c b u).engine = u.engine := by
    intro c b u
    unfold faultIf
    split
    · exact setFault_engine _ _ _
    · rfl
  by_cases loading : s.engine.state = .loading
  · refine budgetInv_of_awake ?_ ?_
    · rw [table_of_paths (loadEnds_paths answers s), h.empty loading]
      exact budgetFits_nil _
    · simp only [Machine.loadEnds, if_pos loading, loadImage, faulted]
      exact nofun
  · rwa [Machine.loadEnds, if_neg loading]

/-! ### Commands that leave the engine, the ceilings and the card in hand -/

theorem progressOccasion_stance (s : State) : (progressOccasion s).stance = s.stance := by
  simp [State.stance, State.limits]

theorem setFault_stance (u : Raiser) (b : FaultBit) (s : State) : (setFault u b s).stance = s.stance := by
  simp [State.stance, State.limits]

theorem progressEnded_stance (ok : Bool) (s : State) : (progressEnded ok s).stance = s.stance := by
  unfold progressEnded
  split
  · rfl
  · cases ok <;> simp only [if_true, Bool.false_eq_true, if_false] <;> split <;> simp [State.stance, State.limits]

theorem noticeEnded_stance (ok : Bool) (s : State) : (noticeEnded ok s).stance = s.stance := by
  unfold noticeEnded
  split
  · rfl
  · split
    · rfl
    · cases ok
      · simp only [noticeFailed, Bool.false_eq_true, if_false]
        split <;> simp [State.stance, State.limits]
      · simp [State.stance, State.limits]

theorem BudgetInv.loseClock {s : State} (h : BudgetInv s) : BudgetInv (loseClock s) := by
  unfold Machine.loseClock
  split
  · have lost : BudgetInv (s.setMix (s.mix.lose (decide (s.engine.state = .loading)))) := h.of_stance rfl rfl
    exact (lost.of_stance (by simp [State.paths]) (setFault_stance _ _ _)).finishStopping
  · exact h

theorem returnClock_stance (s : State) : (returnClock s).stance = s.stance := by
  unfold returnClock; split <;> rfl

theorem loseLane_stance (l : Fin 4) (s : State) : (loseLane l s).stance = s.stance := setFault_stance _ _ _

theorem judgeLane_stance (markers : BitVec 4) (s : State) (l : Fin 4) : (judgeLane markers s l).stance = s.stance := by
  have earned : (if s.mix.lockReady l then s.setMix (s.mix.lockLane l) else s).stance = s.stance := by split <;> rfl
  unfold judgeLane
  extract_lets t
  split
  · split
    · exact earned
    · exact (loseLane_stance l t).trans earned
  · exact earned

theorem judgeLanes_stance (markers : BitVec 4) (s : State) : (judgeLanes markers s).stance = s.stance := by
  simp [judgeLanes, judgeLane_stance]

theorem computeSample_stance (lanes : Vector LaneWord 32) (b : Block) (s : State) :
    (computeSample lanes b s).stance = s.stance := by
  simp [State.stance, State.limits, computeSample]

theorem samplePeriod_stance (lanes : Vector LaneWord 32) (markers : BitVec 4) (s : State) :
    (samplePeriod lanes markers s).stance = s.stance := by
  unfold samplePeriod
  split
  · extract_lets t
    have opened : t.stance = s.stance := by simp only [t]; split <;> rfl
    split
    · rfl
    · split
      · exact (computeSample_stance lanes _ _).trans ((judgeLanes_stance markers t).trans opened)
      · rfl
  · rfl

theorem lineSample_stance (x : Level) (s : State) : (lineSample x s).stance = s.stance := by
  have judged : ∀ u : State, (judgePulse u).stance = u.stance := by
    intro u
    unfold judgePulse
    split
    · exact progressOccasion_stance _
    · rfl
  simp only [lineSample]
  split
  · split
    · exact judged _
    · rfl
  · rfl

/-! Long cards: the reader's list changes, and no more of the reader (R168). -/

@[simp] theorem setLong_state (r : Reader) (k : LongKind) (c : Option LongCard) : (r.setLong k c).state = r.state := by
  cases k <;> rfl

@[simp] theorem setLong_hand (r : Reader) (k : LongKind) (c : Option LongCard) : (r.setLong k c).hand = r.hand := by
  cases k <;> rfl

theorem endLong_stance (k : LongKind) (c : Completion) (s : State) : (endLong k c s).stance = s.stance := by
  unfold endLong
  split
  · rfl
  · simp [State.stance, State.limits]

theorem countFinished_stance (b : Raiser) (notify : Bool) (s : State) : (countFinished b notify s).stance = s.stance := by
  unfold countFinished; split <;> rfl

theorem dropLong_landAll_stance (k : LongKind) (ts : List Transfer) (s : State) :
    (dropLong k (landAll ts s)).stance = s.stance := by
  simp [State.stance, State.limits, dropLong]

theorem longEnds_stance (k : LongKind) (failAt : Option Nat) (s : State) : (longEnds k failAt s).stance = s.stance := by
  have landed : ∀ (l : LongCard) (ts : List Transfer),
      (progressOccasion (countFinished .linkPort l.notify (dropLong k (landAll ts s)))).stance = s.stance := fun l ts =>
    (progressOccasion_stance _).trans ((countFinished_stance _ _ _).trans (dropLong_landAll_stance k ts s))
  unfold longEnds
  split
  · rfl
  · split
    · rfl
    · extract_lets ts
      split
      · split
        · exact (setFault_stance _ _ _).trans (dropLong_landAll_stance k _ s)
        · exact landed _ ts
      · exact landed _ ts

theorem pageWriteEnds_stance (ok : Bool) (s : State) : (pageWriteEnds ok s).stance = s.stance := by
  have ended : ∀ r hold u, (endSnapshot r hold u).stance = u.stance := by
    intro r hold u
    unfold endSnapshot
    split
    · exact endLong_stance _ _ _
    · rfl
  unfold pageWriteEnds
  split
  · split
    · extract_lets t
      split
      · rfl
      · exact (ended _ _ _).trans rfl
    · exact (ended _ _ _).trans (setFault_stance _ _ _)
  · rfl
  · rfl

theorem eraseEnds_stance (s : State) : (eraseEnds s).stance = s.stance := by
  unfold eraseEnds
  split
  · rfl
  · exact endLong_stance _ _ _
  all_goals rfl

theorem programEnds_stance (faithful : Bool) (s : State) : (programEnds faithful s).stance = s.stance := by
  unfold programEnds; split <;> rfl

theorem verifyEnds_stance (answers : Bool) (s : State) : (verifyEnds answers s).stance = s.stance := by
  unfold verifyEnds
  split
  · split
    · exact endLong_stance _ _ _
    · rfl
  all_goals rfl

/-! ### Commands of the card reader: nothing comes to a reader that is OFF with no card in hand -/

theorem endSweep_limits (s : State) : (endSweep s).limits = s.limits := by
  simp only [endSweep]
  split <;> split <;> simp [State.limits]

theorem BudgetInv.sweepEnds {s : State} (h : BudgetInv s) : BudgetInv (if sweepDone s then endSweep s else s) := by
  split
  · next done =>
    exact h.of_limits (endSweep_paths s) (endSweep_limits s) fun off _ => by simp [sweepDone, off] at done
  · exact h

theorem BudgetInv.timerSweep {s : State} (h : BudgetInv s) :
    BudgetInv (if s.reader.state = .idle then beginSweep s else s) := by
  split
  · next idle => exact h.of_limits rfl rfl fun off _ => by rw [off] at idle; cases idle
  · exact h

theorem slotReadEnds_limits (data : LinkRead 64) (s : State) : (slotReadEnds data s).limits = s.limits := by
  have bytes : ∀ (r : Root) (v : Vector Byte 64), (slotBytes r v s).limits = s.limits := by
    intro r v
    simp only [slotBytes]
    split
    · split
      · rfl
      · split <;> rfl
    · rfl
  unfold slotReadEnds
  split
  · split
    · exact bytes _ _
    · simp [State.limits]
    · rfl
  · rfl

theorem BudgetInv.slotReadEnds {s : State} (h : BudgetInv s) (data : LinkRead 64) : BudgetInv (slotReadEnds data s) :=
  h.of_limits (slotReadEnds_paths data s) (slotReadEnds_limits data s) fun off _ => by
    simp [Machine.slotReadEnds, slotReadInFlight, off]

theorem itemListEnds_limits (data : LinkRead 256) (s : State) : (itemListEnds data s).limits = s.limits := by
  unfold itemListEnds
  split
  · rfl
  · split
    · split
      · rfl
      · extract_lets more
        split <;> rfl
    all_goals rfl

theorem BudgetInv.itemListEnds {s : State} (h : BudgetInv s) (data : LinkRead 256) : BudgetInv (itemListEnds data s) :=
  h.of_limits (itemListEnds_paths data s) (itemListEnds_limits data s) fun _ none => by
    simp only [Machine.itemListEnds, none]

theorem cardWriteEnds_limits (ok : Bool) (s : State) : (cardWriteEnds ok s).limits = s.limits := by
  have dispatched : ∀ h u, (dispatchCard h u).limits = u.limits := by
    intro h u
    unfold dispatchCard
    split
    · rfl
    · split
      · rfl
      · split <;> rfl
  have written : ∀ h u, (cardWritten h u).limits = u.limits := by
    intro h u
    simp only [cardWritten]
    split <;> simp [State.limits]
  have fails : ∀ h u, (writeFails h u).limits = u.limits := by
    intro h u
    unfold writeFails
    split <;> simp [State.limits]
  unfold cardWriteEnds
  split
  · rfl
  · split
    · split
      · exact dispatched _ _
      · exact fails _ _
    · split
      · split
        · exact written _ _
        · rfl
      · exact fails _ _
    all_goals rfl

theorem BudgetInv.cardWriteEnds {s : State} (h : BudgetInv s) (ok : Bool) : BudgetInv (cardWriteEnds ok s) :=
  h.of_limits (cardWriteEnds_paths ok s) (cardWriteEnds_limits ok s) fun _ none => by
    simp only [Machine.cardWriteEnds, none]

theorem blowEnds_limits (blown : Bool) (s : State) : (blowEnds blown s).limits = s.limits := by
  unfold blowEnds
  split
  · rfl
  · split <;> rfl

theorem BudgetInv.blowEnds {s : State} (h : BudgetInv s) (blown : Bool) : BudgetInv (blowEnds blown s) :=
  h.of_limits (blowEnds_paths blown s) (blowEnds_limits blown s) fun _ none => by simp only [Machine.blowEnds, none]

theorem reportTransferEnds_limits (ok : Bool) (s : State) : (reportTransferEnds ok s).limits = s.limits := by
  unfold reportTransferEnds
  split
  · rfl
  · split
    · split
      · extract_lets t
        split <;> rfl
      · rfl
    all_goals rfl

theorem BudgetInv.reportTransferEnds {s : State} (h : BudgetInv s) (ok : Bool) : BudgetInv (reportTransferEnds ok s) :=
  h.of_limits (reportTransferEnds_paths ok s) (reportTransferEnds_limits ok s) fun _ none => by
    simp only [Machine.reportTransferEnds, none]

/-! ### The cards that write neither table nor ceilings -/

theorem protectDone_limits (h : Hand) (r : Result × Protect) (s : State) : (protectDone h r s).limits = s.limits := rfl

theorem protectCard_limits (a : ProtAction) {act : Hand → State → State} (hact : ∀ h s, (act h s).limits = s.limits)
    (h : Hand) (s : State) : (protectCard a act h s).limits = s.limits := by
  unfold protectCard
  split
  · rfl
  · split
    · exact hact h s
    · rfl

theorem fixCard_limits (h : Hand) (s : State) : (fixCard h s).limits = s.limits := by
  unfold fixCard; split <;> rfl

theorem mutesCard_limits (failAt : Option Nat) (h : Hand) (items : List Byte) (s : State) :
    (mutesCard failAt h items s).limits = s.limits := by
  unfold mutesCard
  split
  · rfl
  · split
    · rfl
    · simp only [muteRun, installFlags]
      split <;> simp [State.limits]

theorem cueLineCard_limits (h : Hand) (s : State) : (cueLineCard h s).limits = s.limits := by
  unfold cueLineCard; split <;> rfl

theorem snapshotCard_limits (h : Hand) (s : State) : (snapshotCard h s).limits = s.limits := by
  have kept : ∀ u, (keepLong .snapshot h u).limits = u.limits := fun u => by simp [State.limits]
  have taken : ∀ r clear, (takeSnapshot r .card clear s).limits = s.limits := by
    intro r clear
    simp only [takeSnapshot]
    split <;> rfl
  unfold snapshotCard
  split
  · rfl
  · split
    · rfl
    · rfl
    · rfl
    · exact (kept _).trans (taken _ _)

theorem storeCardActs_limits (h : Hand) (s : State) : (storeCardActs h s).limits = s.limits := by
  unfold storeCardActs
  split
  · rfl
  · rfl
  · split <;> simp [State.limits, beginStore]

theorem reportCard_limits (h : Hand) (s : State) : (reportCard h s).limits = s.limits := by
  unfold reportCard
  split
  · simp only [reportBegins]
    split <;> rfl
  · rfl

/-! The cards that stage write the standby list, of which the budget does not speak (R34, R47). -/

theorem BudgetInv.stageCard {s : State} (h : BudgetInv s) {x : Hand} (hand : s.reader.hand = some x) (items : List Byte) :
    BudgetInv (stageCard x items s) := by
  unfold Machine.stageCard
  split
  · exact h.of_hand hand rfl rfl
  · exact h.of_hand hand rfl rfl
  · exact h.of_hand hand rfl rfl

theorem BudgetInv.standbyCard {s : State} (h : BudgetInv s) {x : Hand} (hand : s.reader.hand = some x) :
    BudgetInv (standbyCard x s) := by
  unfold Machine.standbyCard
  split
  · exact h.of_hand hand rfl rfl
  all_goals
    split
    · exact h.of_hand hand rfl rfl
    · exact h.of_hand hand rfl rfl

/-! ### The GO and the CEILINGS card -/

theorem announceGo_limits (fade : Nat) (s : State) : (announceGo fade s).limits = s.limits := by
  simp only [announceGo]
  split <;> simp [State.limits]

theorem mergeWrites_limits (src : GoSource) (items : List StandbyItem) (hd : Header) (s : State) :
    (mergeWrites src items hd s).limits = s.limits := by
  simp [State.limits, mergeWrites]

theorem takeGo_limits (src : GoSource) (s : State) : (takeGo src s).1.limits = s.limits := by
  unfold takeGo
  split
  · split
    · exact (announceGo_limits _ _).trans (mergeWrites_limits _ _ _ s)
    · simp only [refuseCapacity]
      split <;> simp [State.limits]
  all_goals
    simp only [refuseNotReady]
    split <;> simp [State.limits]

/-- An executed GO leaves the table of a full computation; a refused one leaves the table (R51 to R57). -/
theorem BudgetFits.takeGo {s : State} (h : BudgetFits s.budget.ceilings s.table) (src : GoSource) :
    BudgetFits s.budget.ceilings (takeGo src s).1.table := by
  unfold Machine.takeGo
  split
  · next items hd _ =>
    split
    · rw [executeScene, table_of_paths (announceGo_paths _ _)]
      exact budgetFits_mergedTable s.budget s.table items hd
    · rwa [table_of_paths (refuseCapacity_paths _ _ _ _)]
  · rwa [table_of_paths (refuseNotReady_paths _ _)]
  · rwa [table_of_paths (refuseNotReady_paths _ _)]

theorem BudgetInv.takeGo {s : State} (h : BudgetInv s) (awake : s.engine.state ≠ .loading) (src : GoSource) :
    BudgetInv (takeGo src s).1 := by
  have limits := takeGo_limits src s
  refine budgetInv_of_awake ?_ (engine_of_limits limits ▸ awake)
  rw [ceilings_of_limits limits]
  exact h.fits.takeGo src

theorem BudgetInv.goCard {s : State} (h : BudgetInv s) {x : Hand} (hand : s.reader.hand = some x) :
    BudgetInv (goCard x s) := by
  have awake := h.awake_of_hand hand
  exact (h.takeGo awake .card).of_awake rfl rfl (engine_of_limits (takeGo_limits .card s) ▸ awake)

theorem BudgetInv.takeLineGo {s : State} (h : BudgetInv s) (awake : s.engine.state ≠ .loading) :
    BudgetInv (takeLineGo s) := by
  have taken : BudgetInv (s.setStager { s.stager with lineGos := s.stager.lineGos - 1 }) := h.of_awake rfl rfl awake
  exact taken.takeGo awake .line

/-- A CEILINGS card recomputes every emitter whose ceiling it writes (R38 to R40). -/
theorem BudgetInv.ceilingsCard {s : State} (h : BudgetInv s) {x : Hand} (hand : s.reader.hand = some x) (items : List Byte) :
    BudgetInv (ceilingsCard x items s) := by
  have stands := applyItems_keeps (f := ceilingItem s.prot.state)
    (P := fun y => ∀ em : Fin 96, y.2[em] = false → y.1[em] = s.budget.ceilings[em])
    (fun _ _ _ stands h => ceilingItem_stands h stands) ((itemsOf 4 x.count items).map CeilingItem.ofBytes) 0
    (s.budget.ceilings, Vector.replicate 96 false) fun _ _ => by rfl
  exact budgetInv_of_awake (h.fits.recomputedTable stands _) (h.awake_of_hand hand)

/-! ### Due ends and block ends -/

/-- A due end changes an entry's movement, removes an entry, or leaves table and ceilings as they are. -/
theorem BudgetFits.dueEffect {s : State} (h : BudgetFits s.budget.ceilings s.table) (d : Due) :
    BudgetFits (dueEffect d s).budget.ceilings (dueEffect d s).table := by
  rw [dueEffect_budget]
  cases d with
  | ramp k => exact h.updateEntry k fun _ => rfl
  | removal k => exact h.removeEntry k
  | dipLow k => exact h.updateEntry k Entry.lowPoint_counted
  | dipUp k => exact h.updateEntry k fun _ => rfl
  | fade => rwa [show (Machine.dueEffect .fade s).table = s.table from table_of_paths (fadeEnds_paths s)]
  | meter => rwa [show (Machine.dueEffect .meter s).table = s.table from meterExpiry_table s]
  | silence p => exact h
  | ringHold p => exact h
  | holdoff => exact h

theorem dueEffect_table_nil {s : State} (h : s.table = []) (d : Due) : (dueEffect d s).table = [] := by
  cases d with
  | ramp | removal | dipLow | dipUp => simp [dueEffect, updateEntry, removeEntry, h]
  | fade => exact (table_of_paths (fadeEnds_paths s)).trans h
  | meter => exact (meterExpiry_table s).trans h
  | silence | ringHold | holdoff => exact h

theorem BudgetInv.dueEffect {s : State} (h : BudgetInv s) (d : Due) : BudgetInv (dueEffect d s) := by
  obtain ⟨tails, emitters⟩ := h.fits.dueEffect d
  refine ⟨?_, fun loading => dueEffect_table_nil (h.empty ?_) d, tails, emitters⟩
  · rw [LoadingIdle, dueEffect_engine, dueEffect_reader]
    exact h.idle
  · rwa [dueEffect_engine] at loading

theorem BudgetInv.setMeter {s : State} (h : BudgetInv s) (m : Meter) : BudgetInv (s.setMeter m) := h.of_stance rfl rfl

theorem BudgetInv.setDue {s : State} (h : BudgetInv s) (due : List Due) : BudgetInv (s.setDue due) := h.of_stance rfl rfl

theorem BudgetInv.takeDue {s : State} (h : BudgetInv s) (d : Due) : BudgetInv (takeDue d s) := by
  unfold Machine.takeDue
  split
  · exact (h.setDue _).dueEffect d
  · exact h

theorem BudgetInv.settle {s : State} (h : BudgetInv s) : BudgetInv (settle s) := by
  have taken : BudgetInv (takeAllDue s) :=
    List.foldlRecOn s.due (fun t d => Machine.dueEffect d t) (h.setDue []) fun _ ht d _ => BudgetInv.dueEffect ht d
  have stopped := taken.finishStopping
  simp only [Machine.settle]
  split
  · exact stopped.of_stance rfl rfl
  · exact stopped

theorem BudgetInv.settleButMeter {s : State} (h : BudgetInv s) : BudgetInv (settleButMeter s) :=
  (h.setDue _).settle.setDue _

/-! Each unit at a block end: the ramp unit moves current gains alone (R69, R90). -/

theorem BudgetInv.rampsAct {s : State} (h : BudgetInv s) : BudgetInv (rampsAct s) := by
  obtain ⟨tails, emitters⟩ := h.fits.map Entry.advance_counted
  refine ⟨h.idle, fun loading => ?_, tails, emitters⟩
  have empty : s.table = [] := h.empty loading
  simp [Machine.rampsAct, empty]

theorem BudgetInv.fadeActs {s : State} (h : BudgetInv s) : BudgetInv (fadeActs s) := by
  unfold Machine.fadeActs
  split
  · split
    · exact h.of_stance rfl rfl
    · exact h.of_stance rfl rfl
  · exact h

theorem BudgetInv.pickupsAct {s : State} (h : BudgetInv s) (b : Block) : BudgetInv (pickupsAct b s) := by
  refine List.foldlRecOn (motive := BudgetInv) _ (pickupActs b) h fun t ht i _ => ?_
  simp only [pickupActs]
  split
  · exact ht.of_stance rfl rfl
  · exact ht.of_stance rfl rfl

theorem BudgetInv.metersAct {s : State} (h : BudgetInv s) (b : Block) : BudgetInv (metersAct b s) := by
  simp only [Machine.metersAct]
  split
  · split
    · exact (h.setMeter _).setMeter _
    · split
      · exact (h.setMeter _).setDue _
      · exact (h.setMeter _).setMeter _
  · exact h

theorem BudgetInv.holdoffActs {s : State} (h : BudgetInv s) : BudgetInv (holdoffActs s) := by
  unfold Machine.holdoffActs
  split
  · exact h
  · split
    · exact h.of_stance rfl rfl
    · exact h.of_stance rfl rfl

theorem BudgetInv.closeBlock {s : State} (h : BudgetInv s) (b : Block) : BudgetInv (closeBlock b s) := by
  simp only [Machine.closeBlock]
  split
  · exact h.of_stance rfl rfl
  · exact h.of_stance rfl rfl

theorem BudgetInv.blockEndStep {s : State} (h : BudgetInv s) : BudgetInv (blockEndStep s) := by
  unfold Machine.blockEndStep
  split
  · next b _ => exact ((((h.rampsAct.fadeActs).pickupsAct b).metersAct b).holdoffActs).closeBlock b
  · exact h

end Sys2Proof.Machine
end

section
/-! `BudgetInv` through a command and a step. -/
namespace Sys2Proof.Machine

/-- A command of a card acts on the card in hand, or leaves the state. -/
theorem nextMeets_cardInHand {P : State → Prop} {s : State} (hs : P s) (k : CardKind) {act : Hand → List Byte → State}
    (hact : ∀ h items, s.reader.hand = some h → P (act h items)) :
    NextMeets P (match s.actingOn k with
      | some (h, items) => .next (act h items)
      | none => .next s) := by
  split
  · next acting => exact nextMeets_next (hact _ _ (actingOn_eq_some acting).1)
  · exact nextMeets_next hs

/-- Every command keeps the two laws of the budget (R32). -/
theorem exec_keeps_budgetInv (c : Instr) (s : State) (hs : BudgetInv s) : NextMeets BudgetInv (exec c s) := by
  have settled : BudgetInv (settle s) := hs.settle
  have leaves : ∀ {t : State}, t.paths = (settle s).paths → t.stance = (settle s).stance → NextMeets BudgetInv (.next t) :=
    fun paths stance => nextMeets_next (settled.of_stance paths stance)
  have card : ∀ (k : CardKind) {act : Hand → List Byte → State}, (∀ h items, (act h items).paths = (settle s).paths) →
      (∀ h items, (act h items).limits = (settle s).limits) → NextMeets BudgetInv (match (settle s).actingOn k with
        | some (h, items) => .next (act h items)
        | none => .next (settle s)) := fun k _ paths limits =>
    nextMeets_cardInHand settled k fun h items hand => settled.of_hand hand (table_of_paths (paths h items)) (limits h items)
  cases c with
  | powerOnReset => exact nextMeets_next (budgetInv_resetAll _ _)
  | linkReset => exact nextMeets_next (budgetInv_resetAll _ _)
  | engineReset => exact nextMeets_next (budgetInv_resetAll _ _)
  | storeLoadEnd answers => exact nextMeets_next (settled.loadEnds answers)
  | runStart => exact nextMeets_next settled.writeRun1
  | runStop => exact nextMeets_next settled.writeRun0
  | noticeEnable on => exact leaves (writeNoticeEnable_paths _ _) (writeNoticeEnable_stance _ _)
  | vectorCount code => exact leaves (writeVectorCount_paths _ _) (writeVectorCount_stance _ _)
  | sweepNow => exact nextMeets_next settled.sweepNow
  | noticeMaskWrite value => exact leaves rfl rfl
  | faultClear value => exact leaves rfl rfl
  | registerWrite offset width value => exact nextMeets_next (settled.writeRegister _ _ _)
  | rootReadEnd data => exact nextMeets_next (settled.rootRead data)
  | stoppingEnd => exact nextMeets_next settled.finishStopping
  | clockLoss => exact nextMeets_next settled.loseClock
  | clockReturn => exact leaves (returnClock_paths _) (returnClock_stance _)
  | laneLock lane =>
    refine nextMeets_next ?_
    split
    · exact settled.of_stance rfl rfl
    · exact settled
  | laneLoss lane =>
    refine nextMeets_next ?_
    split
    · exact settled.of_stance (loseLane_paths _ _) (loseLane_stance _ _)
    · exact settled
  | blockEnd => exact nextMeets_next settled.blockEndStep
  | rampEnd key => exact nextMeets_next (hs.takeDue _)
  | entryRemoval key => exact nextMeets_next (hs.takeDue _)
  | dipLowPoint key => exact nextMeets_next (hs.takeDue _)
  | dipUpEnd key => exact nextMeets_next (hs.takeDue _)
  | fadeEnd => exact nextMeets_next (hs.takeDue _)
  | silenceLimit pickup => exact nextMeets_next (hs.takeDue _)
  | ringHoldEnd pickup => exact nextMeets_next (hs.takeDue _)
  | meterIntervalExpiry => exact nextMeets_next (hs.takeDue _)
  | holdoffExpiry => exact nextMeets_next (hs.takeDue _)
  | meterPageWriteEnd ok => exact leaves (pageWriteEnds_paths _ _) (pageWriteEnds_stance _ _)
  | cueLineSample level => exact leaves (lineSample_paths _ _) (lineSample_stance _ _)
  | lineGo =>
    refine nextMeets_next ?_
    split
    · next taken => exact settled.takeLineGo taken.2
    · exact settled
  | sweepTimerExpiry => exact nextMeets_next settled.timerSweep
  | slotRead data => exact nextMeets_next (settled.slotReadEnds data)
  | itemListRead data => exact nextMeets_next (settled.itemListEnds data)
  | cardWriteEnd ok => exact nextMeets_next (settled.cardWriteEnds ok)
  | sweepEnd => exact nextMeets_next settled.sweepEnds
  | stage => exact nextMeets_cardInHand settled .stage fun _ items hand => settled.stageCard hand items
  | standby => exact nextMeets_cardInHand settled .standby fun _ _ hand => settled.standbyCard hand
  | dropStandby => exact nextMeets_cardInHand settled .dropStandby fun _ _ hand => settled.of_hand hand rfl rfl
  | go => exact nextMeets_cardInHand settled .go fun _ _ hand => settled.goCard hand
  | ceilings => exact nextMeets_cardInHand settled .ceilings fun _ items hand => settled.ceilingsCard hand items
  | tails => exact card .tails (fun _ _ => rfl) fun _ _ => rfl
  | patches => exact card .patches (fun _ _ => rfl) fun _ _ => rfl
  | pickups => exact card .pickups (fun _ _ => rfl) fun _ _ => rfl
  | mutes failAt => exact card .mutes (fun _ _ => mutesCard_paths _ _ _ _) fun _ _ => mutesCard_limits _ _ _ _
  | snapshot =>
    have before : BudgetInv (settleButMeter s) := hs.settleButMeter
    exact nextMeets_cardInHand before .snapshot fun _ _ hand =>
      before.of_hand hand (table_of_paths (snapshotCard_paths _ _)) (snapshotCard_limits _ _)
  | cueLine => exact card .cueLine (fun _ _ => cueLineCard_paths _ _) fun _ _ => cueLineCard_limits _ _
  | setCode =>
    exact card .protect (fun h _ => protectCard_paths _ (fun _ _ => protectDone_paths _ _ _) h _) fun h _ =>
      protectCard_limits _ (fun _ _ => protectDone_limits _ _ _) h _
  | unlock =>
    exact card .protect (fun h _ => protectCard_paths _ (fun _ _ => protectDone_paths _ _ _) h _) fun h _ =>
      protectCard_limits _ (fun _ _ => protectDone_limits _ _ _) h _
  | relock =>
    exact card .protect (fun h _ => protectCard_paths _ (fun _ _ => protectDone_paths _ _ _) h _) fun h _ =>
      protectCard_limits _ (fun _ _ => protectDone_limits _ _ _) h _
  | clearCode =>
    exact card .protect (fun h _ => protectCard_paths _ (fun _ _ => protectDone_paths _ _ _) h _) fun h _ =>
      protectCard_limits _ (fun _ _ => protectDone_limits _ _ _) h _
  | fix =>
    exact card .protect (fun h _ => protectCard_paths _ fixCard_paths h _) fun h _ => protectCard_limits _ fixCard_limits h _
  | fuseBlowEnd blown => exact nextMeets_next (settled.blowEnds blown)
  | store => exact card .store (fun _ _ => storeCardActs_paths _ _) fun _ _ => storeCardActs_limits _ _
  | storeEraseEnd => exact leaves (eraseEnds_paths _) (eraseEnds_stance _)
  | storeProgramEnd faithful => exact leaves (programEnds_paths _ _) (programEnds_stance _ _)
  | storeVerifyEnd answers => exact leaves (verifyEnds_paths _ _) (verifyEnds_stance _ _)
  | report => exact card .report (fun _ _ => reportCard_paths _ _) fun _ _ => reportCard_limits _ _
  | reportTransferEnd ok => exact nextMeets_next (settled.reportTransferEnds ok)
  | longCardCompletion which failAt => exact leaves (longEnds_paths _ _ _) (longEnds_stance _ _ _)
  | progressWriteEnd ok => exact leaves (progressEnded_paths _ _) (progressEnded_stance _ _)
  | noticeWriteEnd ok => exact leaves (noticeEnded_paths _ _) (noticeEnded_stance _ _)
  | sampleComputation lanes markers => exact leaves (samplePeriod_paths _ _ _) (samplePeriod_stance _ _ _)

/-- Settles O6: every command keeps the two laws, and they do not speak of the queue. -/
theorem budgetLawHoldsAfterEveryStep : Obligations.BudgetLawHoldsAfterEveryStep := fun _ _ hs h =>
  step_keeps (fun _ _ hs => hs.of_stance rfl rfl) exec_keeps_budgetInv hs h

end Sys2Proof.Machine
end

section
/-! The DROP STANDBY card (R50). -/

namespace Sys2Proof.Machine

/-- In a settled state DROP_STANDBY is the scene stager's act on the card in hand (R50). -/
theorem exec_dropStandby_of_acting {s : State} {h : Hand} {bytes : List Byte} (settled : Settled s)
    (acting : s.actingOn .dropStandby = some (h, bytes)) : exec .dropStandby s = .next (dropCard h s) := by
  have arm : exec .dropStandby s = execDropStandby s := rfl
  simp only [arm, execDropStandby, settle_of_settled settled, acting]

/-- What the act leaves: the items are counted before the scene becomes EMPTY (R50). -/
theorem dropCard_eq (h : Hand) (s : State) : dropCard h s =
    complete h { result := .ok, remaining := 0, detail := 0, returns := [(24, leBytes 2 s.stager.standby.items.length)] }
      (s.setStager { s.stager with standby := .empty }) := rfl

/-- Settles O44: the card's command is the stager's act, since nothing is left to settle before it. -/
theorem dropStandbyEmptiesTheList : Obligations.DropStandbyEmptiesTheList := by
  intro s h bytes settled acting
  rw [exec_dropStandby_of_acting settled acting, dropCard_eq]

end Sys2Proof.Machine
end

section
/-! Every command as one function of the state it acts on: what `exec` answers, and which parts of the state the command can
change. -/

namespace Sys2Proof.Machine

/-! ### Frames put together -/

theorem SameOutside.refl (ps : List Part) (s : State) : SameOutside ps s s := by
  intro p _
  cases p <;> rfl

theorem SameOutside.mono {ps qs : List Part} {s t : State} (h : SameOutside ps s t) (sub : ps ⊆ qs) : SameOutside qs s t :=
  fun p hp => h p fun mem => hp (sub mem)

theorem SameOutside.trans {ps : List Part} {s t u : State} (h : SameOutside ps s t) (k : SameOutside ps t u) :
    SameOutside ps s u := by
  intro p hp
  have first := h p hp
  have second := k p hp
  cases p <;> exact Eq.trans second first

/-- A frame after another, both within one list. -/
theorem SameOutside.after {ps qs rs : List Part} {s t u : State} (k : SameOutside qs t u) (h : SameOutside ps s t)
    (sub : ps ⊆ rs) (sub' : qs ⊆ rs) : SameOutside rs s u :=
  (h.mono sub).trans (k.mono sub')

theorem SameOutside.ite {ps : List Part} {s t u : State} {c : Prop} [Decidable c] (h : SameOutside ps s t)
    (k : SameOutside ps s u) : SameOutside ps s (if c then t else u) := by
  split
  · exact h
  · exact k

/-! ### What the shared operations can change -/

section
variable (s : State)

theorem raise_same (b : Raiser) (k : NoticeKind) : SameOutside [.notice] s (raise b k s) := by
  simp [sameOutside_iff]

theorem setFault_same (b : Raiser) (f : FaultBit) : SameOutside [.regs, .notice] s (setFault b f s) := by
  simp [sameOutside_iff]

theorem land_same (x : Transfer) : SameOutside [.hostMem] s (land x s) := by simp [sameOutside_iff]

theorem landAll_same (xs : List Transfer) : SameOutside [.hostMem] s (landAll xs s) := by simp [sameOutside_iff]

theorem progressOccasion_same : SameOutside [.progress] s (progressOccasion s) := by simp [sameOutside_iff]

theorem setHand_same (h : Hand) : SameOutside [.reader] s (setHand h s) := by simp [sameOutside_iff]

theorem complete_same (h : Hand) (c : Completion) : SameOutside [.reader] s (complete h c s) := by simp [sameOutside_iff]

theorem endLong_same (k : LongKind) (c : Completion) : SameOutside [.reader] s (endLong k c s) := by simp [sameOutside_iff]

theorem finishStopping_same : SameOutside [.engine] s (finishStopping s) := by simp [sameOutside_iff]

theorem silenceEmitters_same : SameOutside [.sup] s (silenceEmitters s) := by simp [sameOutside_iff]

theorem openBlock_same : SameOutside [.mix] s (openBlock s) := by simp [sameOutside_iff]

theorem beginSweep_same : SameOutside [.reader] s (beginSweep s) := by simp [sameOutside_iff]

theorem passCard_same (h : Hand) : SameOutside [.reader] s (passCard h s) := by simp [sameOutside_iff]

theorem passSlot_same : SameOutside [.reader] s (passSlot s) := by simp [sameOutside_iff]

theorem readerOff_same : SameOutside [.reader, .progress] s (readerOff s) := by simp [sameOutside_iff]

theorem afterCard_same : SameOutside [.reader, .progress] s (afterCard s) := by simp [sameOutside_iff]

theorem countFinished_same (b : Raiser) (n : Bool) : SameOutside [.reader, .notice] s (countFinished b n s) := by
  simp [sameOutside_iff]

theorem haltReader_same : SameOutside [.reader, .regs, .notice, .progress] s (haltReader s) := by simp [sameOutside_iff]

theorem keepLong_same (k : LongKind) (h : Hand) : SameOutside [.reader, .progress] s (keepLong k h s) := by
  simp [sameOutside_iff]

theorem dropLong_same (k : LongKind) : SameOutside [.reader, .notice] s (dropLong k s) := by simp [sameOutside_iff, dropLong]

theorem meterExpiry_same : SameOutside [.meter] s (meterExpiry s) := by simp [sameOutside_iff]

theorem takeSnapshot_same (r : Root) (src : SnapSource) (clear : Bool) :
    SameOutside [.meter, .mix] s (takeSnapshot r src clear s) := by
  simp only [takeSnapshot]
  split
  · simp [sameOutside_iff]
  · simp [sameOutside_iff]

/-! ### The ends of a block end -/

/-- What an end that a block end makes due can change. -/
def Due.touches : Due → List Part
  | .ramp _ | .removal _ | .dipLow _ | .dipUp _ => [.table]
  | .fade => [.stager, .notice, .progress]
  | .silence _ => [.sup, .notice]
  | .ringHold _ => [.sup]
  | .meter => [.meter]
  | .holdoff => [.cue]

theorem dueEffect_touches (d : Due) : SameOutside d.touches s (dueEffect d s) := by
  cases d with
  | ramp | removal | dipLow | dipUp | ringHold | holdoff => simp [sameOutside_iff, dueEffect, Due.touches]
  | fade => simp [sameOutside_iff, dueEffect, fadeEnds, Due.touches]
  | silence => simp [sameOutside_iff, dueEffect, silenceEnds, Due.touches]
  | meter => exact meterExpiry_same s

theorem takeDue_touches (d : Due) : SameOutside (.due :: d.touches) s (takeDue d s) := by
  unfold takeDue
  refine .ite ?_ (.refl _ s)
  have listed : SameOutside [.due] s (s.setDue (s.due.erase d)) := by simp [sameOutside_iff]
  exact (dueEffect_touches _ d).after listed (by simp) (by simp)

end

/-! ### Every command as an act on a state -/

/-- A card's unit acts where its card waits for it. -/
def onCard (k : CardKind) (act : Hand → List Byte → State → State) (s : State) : State :=
  match s.actingOn k with
  | some (h, items) => act h items s
  | none => s

/-- An action of a PROTECT card that completes at once. -/
def protectAct (a : ProtAction) (act : Hand → Protect → Result × Protect) : State → State :=
  onCard .protect fun h _ => protectCard a (fun h u => protectDone h (act h u.prot) u) h

/-- What a command does to the state it acts on. -/
def act : Instr → State → State
  | .powerOnReset => resetAll true
  | .linkReset | .engineReset => resetAll false
  | .storeLoadEnd answers => loadEnds answers
  | .runStart => writeRun1
  | .runStop => writeRun0
  | .noticeEnable on => writeNoticeEnable on
  | .vectorCount code => writeVectorCount code
  | .sweepNow => sweepNow
  | .noticeMaskWrite w => writeNoticeMask w
  | .faultClear w => writeFault w
  | .registerWrite offset width w => writeRegister offset width w
  | .rootReadEnd data => rootRead data
  | .stoppingEnd => finishStopping
  | .clockLoss => loseClock
  | .clockReturn => returnClock
  | .laneLock l => fun s => if s.processes && s.mix.lockReady l then s.setMix (s.mix.lockLane l) else s
  | .laneLoss l => fun s => if s.mix.clock && s.mix.locks[l] then loseLane l s else s
  | .blockEnd => blockEndStep
  | .rampEnd k => takeDue (.ramp k)
  | .entryRemoval k => takeDue (.removal k)
  | .dipLowPoint k => takeDue (.dipLow k)
  | .dipUpEnd k => takeDue (.dipUp k)
  | .fadeEnd => takeDue .fade
  | .silenceLimit p => takeDue (.silence p)
  | .ringHoldEnd p => takeDue (.ringHold p)
  | .meterIntervalExpiry => takeDue .meter
  | .meterPageWriteEnd ok => pageWriteEnds ok
  | .holdoffExpiry => takeDue .holdoff
  | .cueLineSample x => lineSample x
  | .lineGo => fun s => if 0 < s.stager.lineGos ∧ s.engine.state ≠ .loading then takeLineGo s else s
  | .sweepTimerExpiry => fun s => if s.reader.state = .idle then beginSweep s else s
  | .slotRead data => slotReadEnds data
  | .itemListRead data => itemListEnds data
  | .cardWriteEnd ok => cardWriteEnds ok
  | .sweepEnd => fun s => if sweepDone s then endSweep s else s
  | .stage => onCard .stage stageCard
  | .standby => onCard .standby fun h _ => standbyCard h
  | .dropStandby => onCard .dropStandby fun h _ => dropCard h
  | .go => onCard .go fun h _ => goCard h
  | .ceilings => onCard .ceilings ceilingsCard
  | .tails => onCard .tails tailsCard
  | .patches => onCard .patches patchesCard
  | .pickups => onCard .pickups pickupsCard
  | .mutes failAt => onCard .mutes (mutesCard failAt)
  | .snapshot => onCard .snapshot fun h _ => snapshotCard h
  | .cueLine => onCard .cueLine fun h _ => cueLineCard h
  | .setCode => protectAct .setCode fun h => protSetCode h.code
  | .unlock => protectAct .unlock fun h => protUnlock h.code
  | .relock => protectAct .relock fun _ => protRelock
  | .clearCode => protectAct .clearCode fun h => protClearCode h.code
  | .fix => onCard .protect fun h _ => protectCard .fix fixCard h
  | .fuseBlowEnd blown => blowEnds blown
  | .store => onCard .store fun h _ => storeCardActs h
  | .storeEraseEnd => eraseEnds
  | .storeProgramEnd faithful => programEnds faithful
  | .storeVerifyEnd answers => verifyEnds answers
  | .report => onCard .report fun h _ => reportCard h
  | .reportTransferEnd ok => reportTransferEnds ok
  | .longCardCompletion k failAt => longEnds k failAt
  | .progressWriteEnd ok => progressEnded ok
  | .noticeWriteEnd ok => noticeEnded ok
  | .sampleComputation lanes markers => samplePeriod lanes markers

/-- The state a command acts on: the settled one; for a SNAPSHOT card, settled but for an expiry of the meter interval; for
the command of an end, the state as it is (assumption log 1, 38). -/
def before (c : Instr) (s : State) : State :=
  match endOf c with
  | some _ => s
  | none => if c = .snapshot then settleButMeter s else settle s

theorem next_onCard (k : CardKind) (act : Hand → List Byte → State → State) (s : State) :
    (match s.actingOn k with
      | some (h, items) => .next (act h items s)
      | none => .next s : Host.Outcome State Fault Refusal) = .next (onCard k act s) := by
  unfold onCard
  split <;> rfl

/-- Every command answers the next state that its act makes of the state before it. -/
theorem exec_eq (c : Instr) (s : State) : exec c s = .next (act c (before c s)) := by
  cases c with
  | stage => exact next_onCard .stage stageCard (settle s)
  | standby => exact next_onCard .standby (fun h _ => standbyCard h) (settle s)
  | dropStandby => exact next_onCard .dropStandby (fun h _ => dropCard h) (settle s)
  | go => exact next_onCard .go (fun h _ => goCard h) (settle s)
  | ceilings => exact next_onCard .ceilings ceilingsCard (settle s)
  | tails => exact next_onCard .tails tailsCard (settle s)
  | patches => exact next_onCard .patches patchesCard (settle s)
  | pickups => exact next_onCard .pickups pickupsCard (settle s)
  | mutes failAt => exact next_onCard .mutes (mutesCard failAt) (settle s)
  | snapshot => exact next_onCard .snapshot (fun h _ => snapshotCard h) (settleButMeter s)
  | cueLine => exact next_onCard .cueLine (fun h _ => cueLineCard h) (settle s)
  | setCode => exact next_onCard .protect _ (settle s)
  | unlock => exact next_onCard .protect _ (settle s)
  | relock => exact next_onCard .protect _ (settle s)
  | clearCode => exact next_onCard .protect _ (settle s)
  | fix => exact next_onCard .protect _ (settle s)
  | store => exact next_onCard .store (fun h _ => storeCardActs h) (settle s)
  | report => exact next_onCard .report (fun h _ => reportCard h) (settle s)
  | _ => rfl

theorem exec_eq_next_iff {c : Instr} {s t : State} : exec c s = .next t ↔ t = act c (before c s) := by
  rw [exec_eq]
  constructor
  · rintro ⟨⟩; rfl
  · rintro rfl; rfl

/-- In a settled state a command acts on the state itself. -/
theorem before_of_settled {s : State} (h : Settled s) (c : Instr) : before c s = s := by
  unfold before
  split
  · rfl
  · split
    · rw [settleButMeter_of_no_expiry s (by rw [h.1]; exact List.not_mem_nil), settle_of_settled h]
    · exact settle_of_settled h

theorem exec_of_settled {s : State} (h : Settled s) (c : Instr) : exec c s = .next (act c s) := by
  rw [exec_eq, before_of_settled h]

end Sys2Proof.Machine
end

section
/-! What each command's act can change, and how a law of some parts of the state comes through every command. -/

namespace Sys2Proof.Machine

/-! ### What the acts can change -/

section
variable (s : State)

theorem stopReader_same : SameOutside [.reader, .progress] s (stopReader s) := by
  unfold stopReader
  split
  · exact .refl _ s
  · simp [sameOutside_iff]
  · simp [sameOutside_iff]
  · exact .ite (.refl _ s) (readerOff_same s)

theorem enterStopping_same : SameOutside [.engine, .reader, .progress, .sup] s (enterStopping s) := by
  have stopping : SameOutside [.engine] s (s.setEngine { s.engine with state := .stopping, run := false }) := by
    simp [sameOutside_iff]
  have stopped := (stopReader_same _).after stopping (rs := [.engine, .reader, .progress, .sup]) (by decide) (by decide)
  refine (finishStopping_same _).after ?_ (List.Subset.refl _) (by decide)
  exact .ite stopped ((silenceEmitters_same _).after stopped (List.Subset.refl _) (by decide))

theorem writeRun1_same : SameOutside [.engine] s (writeRun1 s) := by
  unfold writeRun1
  split
  · exact .refl _ s
  · exact .refl _ s
  · exact .ite (.refl _ s) (by simp [sameOutside_iff, beginStart])
  · simp [sameOutside_iff]
  · simp [sameOutside_iff]

theorem writeRun0_same : SameOutside [.engine, .reader, .progress, .sup] s (writeRun0 s) := by
  unfold writeRun0
  split
  · exact .refl _ s
  · exact enterStopping_same s
  all_goals simp [sameOutside_iff]

theorem writeNoticeEnable_same (on : Bool) : SameOutside [.notice] s (writeNoticeEnable on s) :=
  .ite (.refl _ s) (by simp [sameOutside_iff])

theorem writeVectorCount_same (code : BitVec 2) : SameOutside [.notice] s (writeVectorCount code s) :=
  .ite (.refl _ s) (by simp [sameOutside_iff])

theorem sweepNow_same : SameOutside [.reader] s (sweepNow s) := by
  unfold sweepNow
  split
  · exact .refl _ s
  · exact beginSweep_same s
  · exact beginSweep_same s
  · simp [sameOutside_iff]

theorem rootRead_same (data : LinkRead 64) :
    SameOutside [.engine, .root, .reader, .meter, .notice, .regs] s (rootRead data s) := by
  refine .ite ?_ (.refl _ s)
  split
  · simp [sameOutside_iff, failStart]
  · exact .ite (by simp [sameOutside_iff, enterRunning]) (by simp [sameOutside_iff])

theorem install_same (x : Loaded) : SameOutside [.engine, .store, .prot, .tails, .sup, .budget] s (install x s) := by
  simp [sameOutside_iff, install]

theorem loadEnds_same (answers : Bool) :
    SameOutside [.engine, .store, .prot, .tails, .sup, .budget, .regs, .notice] s (loadEnds answers s) := by
  refine .ite ?_ (.refl _ s)
  have faulted : ∀ c b u, SameOutside [.regs, .notice] u (faultIf c b u) := fun c b u =>
    .ite (setFault_same u .store b) (.refl _ u)
  exact (faulted _ _ _).after ((faulted _ _ _).after (install_same s _) (by decide) (by decide))
    (List.Subset.refl _) (by decide)

theorem loseClock_same : SameOutside [.mix, .regs, .notice, .engine] s (loseClock s) := by
  refine .ite ?_ (.refl _ s)
  have lost : SameOutside [.mix] s (s.setMix (s.mix.lose (decide (s.engine.state = .loading)))) := by simp [sameOutside_iff]
  exact (finishStopping_same _).after ((setFault_same _ .mix .clock).after lost (rs := [.mix, .regs, .notice]) (by decide) (by decide))
    (by decide) (by decide)

theorem returnClock_same : SameOutside [.tails, .mix, .freeIndex, .sup] s (returnClock s) :=
  .ite (.refl _ s) (by simp [sameOutside_iff])

theorem loseLane_same (l : Fin 4) : SameOutside [.mix, .regs, .notice] s (loseLane l s) := by
  simp [sameOutside_iff, loseLane]

theorem judgeLane_same (markers : BitVec 4) (l : Fin 4) : SameOutside [.mix, .regs, .notice] s (judgeLane markers s l) := by
  have earned : SameOutside [.mix, .regs, .notice] s (if s.mix.lockReady l then s.setMix (s.mix.lockLane l) else s) :=
    .ite (by simp [sameOutside_iff]) (.refl _ s)
  have counted : ∀ (u : State) (n : Nat), SameOutside [.mix, .regs, .notice] u
      (u.setMix { u.mix with lockRun := u.mix.lockRun.set l n }) := fun u n => by simp [sameOutside_iff]
  unfold judgeLane
  extract_lets t
  exact .ite (.ite earned (earned.trans (loseLane_same t l))) (earned.trans (counted t _))

theorem judgeLanes_same (markers : BitVec 4) : SameOutside [.mix, .regs, .notice] s (judgeLanes markers s) :=
  List.foldlRecOn (motive := SameOutside [.mix, .regs, .notice] s) _ (judgeLane markers) (.refl _ s)
    fun t ht l _ => ht.trans (judgeLane_same t markers l)

theorem computeSample_same (lanes : Vector LaneWord 32) (b : Block) : SameOutside [.mix, .tails] s (computeSample lanes b s) := by
  simp [sameOutside_iff, computeSample]

theorem samplePeriod_same (lanes : Vector LaneWord 32) (markers : BitVec 4) :
    SameOutside [.mix, .tails, .regs, .notice] s (samplePeriod lanes markers s) := by
  refine .ite ?_ (.refl _ s)
  extract_lets t
  have opened : SameOutside [.mix] s t := .ite (openBlock_same s) (.refl _ s)
  split
  · exact .refl _ s
  · rename_i b _
    refine .ite ?_ (.refl _ s)
    have judged := (judgeLanes_same t markers).after opened (rs := [.mix, .tails, .regs, .notice]) (by decide) (by decide)
    exact judged.trans ((computeSample_same _ lanes b).mono (by decide))

theorem pickupActs_same (b : Block) (i : Fin 32) : SameOutside [.sup, .due, .notice] s (pickupActs b s i) := by
  simp only [pickupActs]
  split
  · simp [sameOutside_iff]
  · simp [sameOutside_iff]

theorem pickupsAct_same (b : Block) : SameOutside [.sup, .due, .notice] s (pickupsAct b s) :=
  List.foldlRecOn (motive := SameOutside [.sup, .due, .notice] s) _ (pickupActs b) (.refl _ s)
    fun t ht i _ => ht.trans (pickupActs_same t b i)

theorem fadeActs_same : SameOutside [.due, .stager] s (fadeActs s) :=
  .ite (.ite (by simp [sameOutside_iff]) (by simp [sameOutside_iff])) (.refl _ s)

theorem metersAct_same (b : Block) : SameOutside [.meter, .due] s (metersAct b s) := by
  refine .ite (.ite ?_ (.ite ?_ ?_)) (.refl _ s)
  all_goals simp [sameOutside_iff]

theorem holdoffActs_same : SameOutside [.due, .cue] s (holdoffActs s) :=
  .ite (.refl _ s) (.ite (by simp [sameOutside_iff]) (by simp [sameOutside_iff]))

theorem closeBlock_same (b : Block) : SameOutside [.mix, .notice] s (closeBlock b s) :=
  .ite (by simp [sameOutside_iff]) (by simp [sameOutside_iff])

theorem blockEndStep_same :
    SameOutside [.due, .table, .sup, .stager, .notice, .meter, .cue, .mix] s (blockEndStep s) := by
  unfold blockEndStep
  split
  · rename_i b _
    have ramps : SameOutside [.due, .table, .sup, .stager, .notice, .meter, .cue, .mix] s (rampsAct s) := by
      simp [sameOutside_iff, rampsAct]
    have fades := ramps.trans ((fadeActs_same _).mono (by decide))
    have pickups := fades.trans ((pickupsAct_same _ b).mono (by decide))
    have meters := pickups.trans ((metersAct_same _ b).mono (by decide))
    have holdoffs := meters.trans ((holdoffActs_same _).mono (by decide))
    exact holdoffs.trans ((closeBlock_same _ b).mono (by decide))
  · exact .refl _ s

theorem endSnapshot_same (r : Result) (hold : Hold) : SameOutside [.reader] s (endSnapshot r hold s) :=
  .ite (endLong_same s _ _) (.refl _ s)

theorem pageWriteEnds_same (ok : Bool) : SameOutside [.hostMem, .meter, .regs, .notice, .reader] s (pageWriteEnds ok s) := by
  unfold pageWriteEnds
  split
  · refine .ite (.ite (by simp [sameOutside_iff]) ?_) ?_
    · exact (endSnapshot_same _ _ _).after (ps := [.hostMem, .meter, .notice]) (by simp [sameOutside_iff]) (by decide) (by decide)
    · exact (endSnapshot_same _ _ _).after (ps := [.meter, .regs, .notice]) (by simp [sameOutside_iff]) (by decide) (by decide)
  · exact .refl _ s
  · exact .refl _ s

theorem lineSample_same (x : Level) : SameOutside [.cue, .stager, .progress] s (lineSample x s) := by
  have judged : ∀ u : State, SameOutside [.cue, .stager, .progress] u (judgePulse u) := fun u =>
    .ite (by simp [sameOutside_iff, bouncePulse]) (by simp [sameOutside_iff, acceptPulse])
  refine .ite ?_ (.refl _ s)
  extract_lets t
  have sampled : SameOutside [.cue, .stager, .progress] s t := by simp [sameOutside_iff, t]
  exact .ite (sampled.trans (judged t)) sampled

theorem takeGo_same (src : GoSource) : SameOutside [.stager, .table, .budget, .notice, .progress] s (takeGo src s).1 := by
  unfold takeGo
  split
  · split
    · refine .ite ?_ ?_
      · simp [sameOutside_iff, mergeWrites]
      · simp [sameOutside_iff, mergeWrites]
    · simp only [refuseCapacity]
      split
      · simp [sameOutside_iff]
      · simp [sameOutside_iff]
  all_goals simp [sameOutside_iff, refuseNotReady]

theorem endSweep_same : SameOutside [.reader, .progress] s (endSweep s) := by
  simp only [endSweep]
  split
  · split
    · simp [sameOutside_iff]
    · simp [sameOutside_iff]
  · split
    · simp [sameOutside_iff]
    · simp [sameOutside_iff]

theorem slotReadEnds_same (data : LinkRead 64) :
    SameOutside [.reader, .regs, .notice, .progress] s (slotReadEnds data s) := by
  have bytes : ∀ r v, SameOutside [.reader] s (slotBytes r v s) := fun r v =>
    .ite (.ite (setHand_same s _) (.ite (passSlot_same s) (complete_same s _ _))) (passSlot_same s)
  refine .ite ?_ (.refl _ s)
  split
  · exact (bytes _ _).mono (by decide)
  · exact haltReader_same s
  · exact .refl _ s

theorem itemListEnds_same (data : LinkRead 256) : SameOutside [.reader] s (itemListEnds data s) := by
  unfold itemListEnds
  split
  · exact .refl _ s
  · split
    · split
      · exact complete_same s _ _
      · exact .ite (setHand_same s _) (setHand_same s _)
    all_goals exact .refl _ s

theorem dispatchCard_same (h : Hand) : SameOutside [.reader] s (dispatchCard h s) := by
  unfold dispatchCard
  split
  · exact complete_same s _ _
  · split
    · exact setHand_same s _
    · exact .ite (setHand_same s _) (complete_same s _ _)

theorem cardWritten_same (h : Hand) : SameOutside [.reader, .notice, .progress] s (cardWritten h s) := by
  simp only [cardWritten]
  split
  · simp [sameOutside_iff]
  · simp [sameOutside_iff]

theorem writeFails_same (h : Hand) : SameOutside [.reader, .regs, .notice, .progress] s (writeFails h s) :=
  (haltReader_same _).after (.ite (.refl _ s) (passCard_same s h)) (by decide) (List.Subset.refl _)

theorem cardWriteEnds_same (ok : Bool) :
    SameOutside [.hostMem, .reader, .regs, .notice, .progress] s (cardWriteEnds ok s) := by
  have fails : ∀ h, SameOutside [.hostMem, .reader, .regs, .notice, .progress] s (writeFails h s) := fun h =>
    (writeFails_same s h).mono (by decide)
  unfold cardWriteEnds
  split
  · exact .refl _ s
  · split
    · exact .ite ((dispatchCard_same _ _).after (land_same s _) (by decide) (by decide)) (fails _)
    · refine .ite (.ite ?_ ?_) (fails _)
      · exact (cardWritten_same _ _).after (land_same s _) (by decide) (by decide)
      · exact (setHand_same _ _).after (land_same s _) (by decide) (by decide)
    all_goals exact .refl _ s

theorem longEnds_same (k : LongKind) (failAt : Option Nat) :
    SameOutside [.hostMem, .reader, .notice, .regs, .progress] s (longEnds k failAt s) := by
  have dropped : ∀ ts, SameOutside [.hostMem, .reader, .notice, .regs, .progress] s (dropLong k (landAll ts s)) := fun ts =>
    (dropLong_same _ k).after (landAll_same s ts) (by decide) (by decide)
  have done : ∀ ts n, SameOutside [.hostMem, .reader, .notice, .regs, .progress] s
      (progressOccasion (countFinished .linkPort n (dropLong k (landAll ts s)))) := fun ts n =>
    ((dropped ts).trans ((countFinished_same _ _ n).mono (by decide))).trans ((progressOccasion_same _).mono (by decide))
  unfold longEnds
  split
  · exact .refl _ s
  · split
    · exact .refl _ s
    · extract_lets ts
      split
      · exact .ite ((dropped _).trans ((setFault_same _ _ _).mono (by decide))) (done _ _)
      · exact done _ _

theorem stageCard_same (h : Hand) (items : List Byte) : SameOutside [.stager, .reader] s (stageCard h items s) := by
  unfold stageCard
  split
  · exact (complete_same s _ _).mono (by decide)
  all_goals simp [sameOutside_iff, stageItems]

theorem standbyCard_same (h : Hand) : SameOutside [.stager, .reader] s (standbyCard h s) := by
  unfold standbyCard
  split
  · exact (complete_same s _ _).mono (by decide)
  all_goals
    split
    · exact (complete_same s _ _).mono (by decide)
    · simp [sameOutside_iff]

theorem installFlags_same (e : Bool) (fs : List Bool) : SameOutside [.sup] s (installFlags e fs s) :=
  .ite (by simp [sameOutside_iff]) (by simp [sameOutside_iff])

theorem mutesCard_same (failAt : Option Nat) (h : Hand) (items : List Byte) :
    SameOutside [.hostMem, .sup, .reader] s (mutesCard failAt h items s) := by
  have refused : ∀ r, SameOutside [.hostMem, .sup, .reader] s (complete h (refusedWhole r h s) s) := fun r =>
    (complete_same s _ _).mono (by decide)
  unfold mutesCard
  split
  · exact refused _
  · refine .ite (refused _) ?_
    exact (((landAll_same s _).mono (by decide)).trans ((installFlags_same _ _ _).mono (by decide))).trans
      ((complete_same _ _ _).mono (by decide))

theorem snapshotCard_same (h : Hand) : SameOutside [.meter, .mix, .reader, .progress] s (snapshotCard h s) := by
  refine .ite ((complete_same s _ _).mono (by decide)) ?_
  split
  · exact (complete_same s _ _).mono (by decide)
  · exact .refl _ s
  · exact .refl _ s
  · exact (keepLong_same _ _ _).after (takeSnapshot_same s _ _ _) (by decide) (by decide)

theorem cueLineCard_same (h : Hand) : SameOutside [.cue, .reader] s (cueLineCard h s) := by
  unfold cueLineCard
  split
  · exact (complete_same s _ _).mono (by decide)
  · simp [sameOutside_iff]

theorem protectDone_same (h : Hand) (r : Result × Protect) : SameOutside [.prot, .reader] s (protectDone h r s) := by
  simp [sameOutside_iff, protectDone]

theorem protectCard_same (a : ProtAction) {act : Hand → State → State}
    (hact : ∀ h s, SameOutside [.prot, .reader] s (act h s)) (h : Hand) :
    SameOutside [.prot, .reader] s (protectCard a act h s) := by
  unfold protectCard
  split
  · exact protectDone_same s h _
  · exact .ite (hact h s) (.refl _ s)

theorem fixCard_same (h : Hand) : SameOutside [.prot, .reader] s (fixCard h s) := by
  unfold fixCard
  split
  · exact protectDone_same s h _
  · exact (setHand_same s _).mono (by decide)

theorem blowEnds_same (blown : Bool) : SameOutside [.prot, .reader] s (blowEnds blown s) := by
  unfold blowEnds
  split
  · exact .refl _ s
  · split
    · exact protectDone_same s _ _
    all_goals exact .refl _ s

theorem storeCardActs_same (h : Hand) : SameOutside [.store, .reader, .progress] s (storeCardActs h s) := by
  unfold storeCardActs
  split
  · exact (complete_same s _ _).mono (by decide)
  · exact .refl _ s
  · refine .ite (.refl _ s) ?_
    exact (keepLong_same _ _ _).after (ps := [.store]) (by simp [sameOutside_iff, beginStore]) (by decide) (by decide)

theorem eraseEnds_same : SameOutside [.store, .reader] s (eraseEnds s) := by
  unfold eraseEnds
  split
  · simp [sameOutside_iff, setStoreState]
  · simp [sameOutside_iff, clearEnds, setStoreState]
  all_goals exact .refl _ s

theorem programEnds_same (faithful : Bool) : SameOutside [.store] s (programEnds faithful s) := by
  unfold programEnds
  split
  · simp [sameOutside_iff]
  all_goals exact .refl _ s

theorem verifyEnds_same (answers : Bool) : SameOutside [.store, .reader] s (verifyEnds answers s) := by
  unfold verifyEnds
  split
  · exact .ite (by simp [sameOutside_iff, verifyMatches]) (by simp [sameOutside_iff, verifyFails])
  all_goals exact .refl _ s

theorem reportCard_same (h : Hand) : SameOutside [.reader] s (reportCard h s) :=
  .ite (.ite (complete_same s _ _) (setHand_same s _)) (complete_same s _ _)

theorem reportTransferEnds_same (ok : Bool) : SameOutside [.hostMem, .reader] s (reportTransferEnds ok s) := by
  unfold reportTransferEnds
  split
  · exact .refl _ s
  · split
    · refine .ite (.ite ?_ ?_) ((complete_same s _ _).mono (by decide))
      · exact (complete_same _ _ _).after (land_same s _) (by decide) (by decide)
      · exact (setHand_same _ _).after (land_same s _) (by decide) (by decide)
    all_goals exact .refl _ s

theorem progressEnded_same (ok : Bool) : SameOutside [.hostMem, .progress, .regs, .notice] s (progressEnded ok s) := by
  unfold progressEnded
  split
  · exact .refl _ s
  · extract_lets _ u v
    have landed : SameOutside [.hostMem, .progress, .regs, .notice] s u := by
      cases ok <;> simp [sameOutside_iff, u]
    have judged : SameOutside [.hostMem, .progress, .regs, .notice] s v :=
      .ite landed (landed.trans ((setFault_same _ _ _).mono (by decide)))
    exact .ite (judged.trans ((progressOccasion_same _).mono (by decide))) judged

theorem noticeEnded_same (ok : Bool) : SameOutside [.hostMem, .notice, .regs] s (noticeEnded ok s) := by
  unfold noticeEnded
  split
  · exact .refl _ s
  · refine .ite (.refl _ s) ?_
    extract_lets t u
    have ended : SameOutside [.hostMem, .notice, .regs] s t := by simp [sameOutside_iff, t]
    have done : SameOutside [.hostMem, .notice, .regs] s u := by
      refine .ite (ended.trans ((land_same _ _).mono (by decide))) (ended.trans (.ite ?_ ?_))
      · simp [sameOutside_iff]
      · exact (setFault_same _ _ _).mono (by decide)
    exact done.trans (by simp [sameOutside_iff])

/-- A reset leaves the queue alone. -/
theorem resetAll_pending (powerOn : Bool) : (resetAll powerOn s).pending = s.pending := by
  have handed := (landHanded_same (landProgress s)) .pending (by decide)
  have progress := (landProgress_same s) .pending (by decide)
  exact Eq.trans handed progress

/-- All the parts but the queue. -/
def everyUnit : List Part :=
  [.hostMem, .regs, .root, .progress, .engine, .reader, .stager, .table, .budget, .mix, .tails, .sup, .meter, .cue, .notice,
    .prot, .store, .due, .freeIndex]

theorem sameOutside_everyUnit {s t : State} (h : t.pending = s.pending) : SameOutside everyUnit s t := by
  intro p hp
  cases p with
  | pending => exact h
  | _ => exact absurd (by decide) hp

theorem resetAll_same (powerOn : Bool) : SameOutside everyUnit s (resetAll powerOn s) :=
  sameOutside_everyUnit (resetAll_pending s powerOn)

theorem writeControl_same (w : Word) : SameOutside everyUnit s (writeControl w s) := by
  refine .ite (resetAll_same s false) ?_
  extract_lets t u
  have fields : SameOutside everyUnit s t :=
    (writeVectorCount_same _ _).after (writeNoticeEnable_same s _) (by decide) (by decide)
  have run : SameOutside everyUnit s u :=
    .ite (fields.trans ((writeRun1_same t).mono (by decide))) (fields.trans ((writeRun0_same t).mono (by decide)))
  exact .ite (run.trans ((sweepNow_same u).mono (by decide))) run

theorem writeRegister_same (offset : Nat) (width : AccessWidth) (w : Word) :
    SameOutside everyUnit s (writeRegister offset width w s) :=
  .ite (.refl _ s) (.ite (writeControl_same s w) (.ite (sameOutside_everyUnit rfl) (.ite (sameOutside_everyUnit rfl)
    (.ite (sameOutside_everyUnit rfl) (.ite (sameOutside_everyUnit rfl) (.refl _ s))))))

end

theorem onCard_same {ps : List Part} (k : CardKind) {act : Hand → List Byte → State → State} {s : State}
    (h : ∀ x items, SameOutside ps s (act x items s)) : SameOutside ps s (onCard k act s) := by
  unfold onCard
  split
  · exact h _ _
  · exact .refl _ s

theorem protectAct_same (a : ProtAction) (act : Hand → Protect → Result × Protect) (s : State) :
    SameOutside [.prot, .reader] s (protectAct a act s) :=
  onCard_same _ fun h _ => protectCard_same s a (fun h u => protectDone_same u h _) h

/-! ### Every command -/

/-- The parts of the state that a command's act can change. -/
def touches : Instr → List Part
  | .powerOnReset | .linkReset | .engineReset | .registerWrite _ _ _ => everyUnit
  | .storeLoadEnd _ => [.engine, .store, .prot, .tails, .sup, .budget, .regs, .notice]
  | .runStart | .stoppingEnd => [.engine]
  | .runStop => [.engine, .reader, .progress, .sup]
  | .noticeEnable _ | .vectorCount _ | .noticeMaskWrite _ => [.notice]
  | .faultClear _ => [.regs]
  | .rootReadEnd _ => [.engine, .root, .reader, .meter, .notice, .regs]
  | .clockLoss => [.mix, .regs, .notice, .engine]
  | .clockReturn => [.tails, .mix, .freeIndex, .sup]
  | .laneLock _ => [.mix]
  | .laneLoss _ => [.mix, .regs, .notice]
  | .blockEnd => [.due, .table, .sup, .stager, .notice, .meter, .cue, .mix]
  | .rampEnd _ | .entryRemoval _ | .dipLowPoint _ | .dipUpEnd _ => [.due, .table]
  | .fadeEnd => [.due, .stager, .notice, .progress]
  | .silenceLimit _ => [.due, .sup, .notice]
  | .ringHoldEnd _ => [.due, .sup]
  | .meterIntervalExpiry => [.due, .meter]
  | .holdoffExpiry => [.due, .cue]
  | .meterPageWriteEnd _ => [.hostMem, .meter, .regs, .notice, .reader]
  | .cueLineSample _ => [.cue, .stager, .progress]
  | .lineGo => [.stager, .table, .budget, .notice, .progress]
  | .sweepNow | .sweepTimerExpiry | .itemListRead _ | .report => [.reader]
  | .slotRead _ => [.reader, .regs, .notice, .progress]
  | .cardWriteEnd _ => [.hostMem, .reader, .regs, .notice, .progress]
  | .sweepEnd => [.reader, .progress]
  | .stage | .standby | .dropStandby => [.stager, .reader]
  | .go => [.stager, .table, .budget, .notice, .progress, .reader]
  | .ceilings => [.table, .budget, .reader]
  | .tails | .patches => [.tails, .reader]
  | .pickups => [.sup, .reader]
  | .mutes _ => [.hostMem, .sup, .reader]
  | .snapshot => [.meter, .mix, .reader, .progress]
  | .cueLine => [.cue, .reader]
  | .setCode | .unlock | .relock | .clearCode | .fix | .fuseBlowEnd _ => [.prot, .reader]
  | .store => [.store, .reader, .progress]
  | .storeEraseEnd | .storeVerifyEnd _ => [.store, .reader]
  | .storeProgramEnd _ => [.store]
  | .reportTransferEnd _ => [.hostMem, .reader]
  | .longCardCompletion _ _ => [.hostMem, .reader, .notice, .regs, .progress]
  | .progressWriteEnd _ => [.hostMem, .progress, .regs, .notice]
  | .noticeWriteEnd _ => [.hostMem, .notice, .regs]
  | .sampleComputation _ _ => [.mix, .tails, .regs, .notice]

/-- No command changes a part that is not listed for it. -/
theorem act_touches (c : Instr) (s : State) : SameOutside (touches c) s (act c s) := by
  cases c with
  | powerOnReset | linkReset | engineReset => exact resetAll_same s _
  | storeLoadEnd answers => exact loadEnds_same s answers
  | runStart => exact writeRun1_same s
  | runStop => exact writeRun0_same s
  | noticeEnable on => exact writeNoticeEnable_same s on
  | vectorCount code => exact writeVectorCount_same s code
  | sweepNow => exact sweepNow_same s
  | noticeMaskWrite w => simp [sameOutside_iff, act, touches, writeNoticeMask]
  | faultClear w => simp [sameOutside_iff, act, touches, writeFault]
  | registerWrite offset width w => exact writeRegister_same s offset width w
  | rootReadEnd data => exact rootRead_same s data
  | stoppingEnd => exact finishStopping_same s
  | clockLoss => exact loseClock_same s
  | clockReturn => exact returnClock_same s
  | laneLock l => exact .ite (by simp [sameOutside_iff, touches]) (.refl _ s)
  | laneLoss l => exact .ite (loseLane_same s l) (.refl _ s)
  | blockEnd => exact blockEndStep_same s
  | rampEnd k => exact takeDue_touches s (.ramp k)
  | entryRemoval k => exact takeDue_touches s (.removal k)
  | dipLowPoint k => exact takeDue_touches s (.dipLow k)
  | dipUpEnd k => exact takeDue_touches s (.dipUp k)
  | fadeEnd => exact takeDue_touches s .fade
  | silenceLimit p => exact takeDue_touches s (.silence p)
  | ringHoldEnd p => exact takeDue_touches s (.ringHold p)
  | meterIntervalExpiry => exact takeDue_touches s .meter
  | holdoffExpiry => exact takeDue_touches s .holdoff
  | meterPageWriteEnd ok => exact pageWriteEnds_same s ok
  | cueLineSample x => exact lineSample_same s x
  | lineGo =>
    refine .ite ?_ (.refl _ s)
    have taken : SameOutside [.stager] s (s.setStager { s.stager with lineGos := s.stager.lineGos - 1 }) := by
      simp [sameOutside_iff]
    exact (takeGo_same _ _).after taken (by decide) (List.Subset.refl _)
  | sweepTimerExpiry => exact .ite (beginSweep_same s) (.refl _ s)
  | slotRead data => exact slotReadEnds_same s data
  | itemListRead data => exact itemListEnds_same s data
  | cardWriteEnd ok => exact cardWriteEnds_same s ok
  | sweepEnd => exact .ite (endSweep_same s) (.refl _ s)
  | stage => exact onCard_same _ fun h items => stageCard_same s h items
  | standby => exact onCard_same _ fun h _ => standbyCard_same s h
  | dropStandby => exact onCard_same _ fun h _ => by simp [sameOutside_iff, dropCard, touches]
  | go => exact onCard_same _ fun h _ => (complete_same _ _ _).after (takeGo_same s .card) (by decide) (by decide)
  | ceilings => exact onCard_same _ fun h items => by simp [sameOutside_iff, ceilingsCard, applyCeilings, touches]
  | tails => exact onCard_same _ fun h items => by simp [sameOutside_iff, tailsCard, touches]
  | patches => exact onCard_same _ fun h items => by simp [sameOutside_iff, patchesCard, touches]
  | pickups => exact onCard_same _ fun h items => by simp [sameOutside_iff, pickupsCard, touches]
  | mutes failAt => exact onCard_same _ fun h items => mutesCard_same s failAt h items
  | snapshot => exact onCard_same _ fun h _ => snapshotCard_same s h
  | cueLine => exact onCard_same _ fun h _ => cueLineCard_same s h
  | setCode | unlock | relock | clearCode => exact protectAct_same _ _ s
  | fix => exact onCard_same _ fun h _ => protectCard_same s _ (fun h u => fixCard_same u h) h
  | fuseBlowEnd blown => exact blowEnds_same s blown
  | store => exact onCard_same _ fun h _ => storeCardActs_same s h
  | storeEraseEnd => exact eraseEnds_same s
  | storeProgramEnd faithful => exact programEnds_same s faithful
  | storeVerifyEnd answers => exact verifyEnds_same s answers
  | report => exact onCard_same _ fun h _ => reportCard_same s h
  | reportTransferEnd ok => exact reportTransferEnds_same s ok
  | longCardCompletion k failAt => exact longEnds_same s k failAt
  | progressWriteEnd ok => exact progressEnded_same s ok
  | noticeWriteEnd ok => exact noticeEnded_same s ok
  | sampleComputation lanes markers => exact samplePeriod_same s lanes markers

end Sys2Proof.Machine
end

section
/-! How a law of some parts of the state comes through settling, through every command, and through a step. -/

namespace Sys2Proof.Machine

/-! ### A law and the parts it speaks of -/

/-- What a predicate says rests on the parts listed. -/
def SpeaksOf (ps : List Part) (P : State → Prop) : Prop := ∀ ⦃s t : State⦄, (∀ p ∈ ps, p.same s t) → P s → P t

/-- A frame that leaves every part a predicate speaks of keeps it. -/
theorem SpeaksOf.keeps {ps qs : List Part} {P : State → Prop} (h : SpeaksOf ps P) {s t : State} (same : SameOutside qs s t)
    (apart : ps.any qs.contains = false) (hs : P s) : P t :=
  h (fun p hp => same p fun mem => by simpa [hp] using List.any_eq_false.1 apart p hp (by simpa using mem)) hs

/-- A law that the ends of a block end keep. It speaks neither of the mix engine, nor of what is due, nor of the queue. -/
structure KeptByEnds (ps : List Part) (P : State → Prop) : Prop where
  speaks : SpeaksOf ps P
  apart : ps.any [Part.mix, .due, .pending].contains = false
  ends : ∀ d s, P s → P (dueEffect d s)
  stopping : ∀ s, P s → P (finishStopping s)

namespace KeptByEnds
variable {ps : List Part} {P : State → Prop}

theorem setDue (law : KeptByEnds ps P) {s : State} (hs : P s) (due : List Due) : P (s.setDue due) :=
  law.speaks.keeps (qs := [.mix, .due, .pending]) (by simp [sameOutside_iff]) law.apart hs

theorem withQueue (law : KeptByEnds ps P) {s : State} (hs : P s) (q : List Instr) : P (s.withQueue q) :=
  law.speaks.keeps (qs := [.mix, .due, .pending]) (by simp [sameOutside_iff]) law.apart hs

theorem takeDue (law : KeptByEnds ps P) {s : State} (hs : P s) (d : Due) : P (takeDue d s) := by
  unfold Machine.takeDue
  split
  · exact law.ends d _ (law.setDue hs _)
  · exact hs

theorem settle (law : KeptByEnds ps P) {s : State} (hs : P s) : P (settle s) := by
  have taken : P (takeAllDue s) :=
    List.foldlRecOn s.due (fun t d => dueEffect d t) (law.setDue hs []) fun t ht d _ => law.ends d t ht
  have stopped := law.stopping _ taken
  simp only [Machine.settle]
  split
  · exact law.speaks.keeps ((openBlock_same _).mono (qs := [.mix, .due, .pending]) (by decide)) law.apart stopped
  · exact stopped

theorem before (law : KeptByEnds ps P) {s : State} (hs : P s) (c : Instr) : P (before c s) := by
  unfold Machine.before
  split
  · exact hs
  · split
    · exact law.setDue (law.settle (law.setDue hs _)) _
    · exact law.settle hs

end KeptByEnds

/-- What a card's unit keeps in acting on the card in hand, its command keeps. -/
theorem onCard_keeps {P : State → Prop} {k : CardKind} {f : Hand → List Byte → State → State} {s : State} (stands : P s)
    (acts : ∀ h items, s.reader.hand = some h → P (f h items s)) : P (onCard k f s) := by
  unfold onCard
  split
  · rename_i h items acting
    exact acts h items (actingOn_eq_some acting).1
  · exact stands

/-- The command of an end takes that end. -/
theorem act_of_end {c : Instr} {d : Due} (h : endOf c = some d) : act c = takeDue d := by
  cases c with
  | rampEnd | entryRemoval | dipLowPoint | dipUpEnd | fadeEnd | silenceLimit | ringHoldEnd | meterIntervalExpiry
  | holdoffExpiry =>
    cases h
    rfl
  | _ => cases h

/-- The commands whose act has to be looked at for a law of some parts: those that can change one of them, and that take no
end of a block end. -/
def concerns (ps : List Part) (c : Instr) : Bool := (endOf c).isNone && ps.any (touches c).contains

/-- A law that the ends keep, every command keeps whose act keeps it wherever it can change what the law speaks of. -/
theorem exec_keeps {ps : List Part} {P : State → Prop} (law : KeptByEnds ps P) {c : Instr}
    (acts : concerns ps c = true → ∀ u, P u → P (act c u)) {s : State} (hs : P s) : NextMeets P (exec c s) := by
  rw [exec_eq]
  refine nextMeets_next ?_
  have hb := law.before hs c
  cases he : endOf c with
  | some d =>
    rw [act_of_end he]
    exact law.takeDue hb d
  | none =>
    cases ht : ps.any (touches c).contains with
    | true => exact acts (by simp only [concerns, he, ht]; rfl) _ hb
    | false => exact law.speaks.keeps (act_touches c _) ht hb

/-- A law that the ends and every act keep, every step keeps. -/
theorem step_keeps_law {ps : List Part} {P : State → Prop} (law : KeptByEnds ps P)
    (acts : ∀ c, concerns ps c = true → ∀ u, P u → P (act c u)) {s t : State} (hs : P s) (h : step s = .next t) : P t :=
  step_keeps (fun _ _ hs => law.withQueue hs _) (fun c _ hs => exec_keeps law (acts c) hs) hs h

/-! ### What settling can change -/

theorem before_same (c : Instr) (s : State) :
    SameOutside [.due, .table, .stager, .notice, .progress, .sup, .meter, .cue, .engine, .mix] s (before c s) := by
  have settled : ∀ u : State,
      SameOutside [.due, .table, .stager, .notice, .progress, .sup, .meter, .cue, .engine, .mix] u (settle u) := fun u => by
    simp [sameOutside_iff]
  unfold before
  split
  · exact .refl _ s
  · refine .ite ?_ (settled s)
    simp [sameOutside_iff]

/-- The parts that neither settling nor the command's act can change are those of the state before it. -/
theorem exec_same {c : Instr} {s t : State} (h : exec c s = .next t) (p : Part)
    (hs : p ∉ [Part.due, .table, .stager, .notice, .progress, .sup, .meter, .cue, .engine, .mix]) (hc : p ∉ touches c) :
    p.same s t := by
  rw [exec_eq_next_iff] at h
  subst h
  have first := before_same c s p hs
  have second := act_touches c (before c s) p hc
  cases p <;> exact Eq.trans second first

end Sys2Proof.Machine
end

section
/-! The queue (assumption log 6), settling (1), and host memory (R6). -/

namespace Sys2Proof.Machine

/-- Settles O2: a command answers what its act makes, and neither settling nor an act can change the queue. -/
theorem commandsAnswerNextAndKeepQueue : Obligations.CommandsAnswerNextAndKeepQueue := by
  intro c s
  refine ⟨_, exec_eq c s, exec_same (exec_eq c s) .pending (by decide) ?_⟩
  cases c <;> simp [touches, everyUnit]

/-! ### The machine as a whole -/

/-- Settles O1, by the definition of a step. -/
theorem stepRunsFrontCommand : Obligations.StepRunsFrontCommand := ⟨fun _ _ _ => rfl, fun _ => rfl⟩

theorem settled_settle (s : State) : Settled (settle s) := ⟨settle_due s, settle_opening s, stoppingDone_settle s⟩

theorem settle_settle (s : State) : settle (settle s) = settle s := settle_of_settled (settled_settle s)

/-- A command that takes no end acts on the settled state, a SNAPSHOT card where no expiry of the meter interval is due. -/
theorem before_eq_settle {c : Instr} {s : State} (h : endOf c = none) (hm : c = .snapshot → .meter ∉ s.due) :
    before c s = settle s := by
  simp only [before, h]
  split
  · exact settleButMeter_of_no_expiry s (hm ‹_›)
  · rfl

theorem settle_cons {s : State} {d : Due} {ds : List Due} (h : s.due = d :: ds) :
    settle s = settle (dueEffect d (s.setDue ds)) := by
  unfold settle
  rw [takeAllDue_cons s d ds h]

/-- The end of STOPPING, where its condition holds, in the words of R87. -/
theorem finishStopping_eq (s : State) : finishStopping s =
    if s.engine.state = .stopping ∧ s.reader.state = .off ∧ (s.mix.clock = false ∨ ∀ e : Fin 96, s.sup.emitterGain[e] = 0) then
      s.setEngine (if s.engine.run then
          { state := .starting, run := true, startAddr := s.regs.exchangeHigh.toNat * 2 ^ 32 + s.regs.exchangeLow.toNat }
        else { s.engine with state := .stopped })
    else s := by
  have ends : endStopping s = s.setEngine (if s.engine.run then
          { state := .starting, run := true, startAddr := s.regs.exchangeHigh.toNat * 2 ^ 32 + s.regs.exchangeLow.toNat }
        else { s.engine with state := .stopped }) := by
    unfold endStopping
    split
    · rfl
    · rfl
  simp only [finishStopping, stoppingDone_iff, ends]

/-- With nothing due settling ends STOPPING, where its condition holds, and begins the next block, where one waits. -/
theorem settle_of_nothing_due {s : State} (h : s.due = []) :
    settle s = if s.mix.opening then openBlock (finishStopping s) else finishStopping s := by
  simp only [settle, takeAllDue_of_none s h, finishStopping_mix]

/-- Settles O3, clause by clause: a settled state is its own settling, and a command's act and the state it acts on are
those of `exec_eq`. -/
theorem commandsActOnSettledState : Obligations.CommandsActOnSettledState := by
  refine ⟨settled_settle, ?_, ?_, fun s d ds h => settle_cons h, ?_⟩
  · intro c s hc hm
    have nothing_due : c = .snapshot → Due.meter ∉ (settle s).due := fun _ => by simp
    rw [exec_eq, exec_eq, before_eq_settle hc hm, before_eq_settle hc nothing_due, settle_settle]
  · intro c d s hc
    have taken : exec c s = .next (takeDue d s) := by
      rw [exec_eq, act_of_end hc]
      simp only [before, hc]
    exact ⟨fun due => by rw [taken, takeDue, if_pos due], fun due => by rw [taken, takeDue, if_neg due]⟩
  · intro s h stopped t
    have ended : finishStopping s = t := finishStopping_eq s
    rw [settle_of_nothing_due h, ended]

/-! ### Host memory -/

theorem memInv_speaks : SpeaksOf [.hostMem] MemInv := fun s t same hs => by
  have kept : t.hostMem = s.hostMem := same .hostMem (by decide)
  rwa [MemInv, kept]

theorem MemInv.of_same {ps : List Part} {s t : State} (hs : MemInv s) (same : SameOutside ps s t)
    (apart : Part.hostMem ∉ ps) : MemInv t := by
  have kept : t.hostMem = s.hostMem := same .hostMem apart
  rwa [MemInv, kept]

theorem memInv_kept : KeptByEnds [.hostMem] MemInv where
  speaks := memInv_speaks
  apart := by decide
  ends d s hs := by rwa [MemInv, dueEffect_hostMem]
  stopping s hs := by rwa [MemInv, finishStopping_hostMem]

theorem memInv_resetAll (powerOn : Bool) {s : State} (hs : MemInv s) : MemInv (resetAll powerOn s) := by
  have progress : (landProgress s).hostMem.wf := by
    unfold landProgress
    split
    · exact hs
    · split
      · exact land_wf _ s hs
      · exact hs
  rw [MemInv, resetAll_hostMem, landHanded]
  split
  · exact progress
  · exact land_wf _ _ progress

theorem memInv_writeRegister {s : State} (hs : MemInv s) (offset : Nat) (width : AccessWidth) (w : Word) :
    MemInv (writeRegister offset width w s) := by
  have control : MemInv (writeControl w s) := by
    unfold writeControl
    split
    · exact memInv_resetAll false hs
    · extract_lets t u
      have fields : MemInv t :=
        (hs.of_same (writeNoticeEnable_same s _) (by decide)).of_same (writeVectorCount_same _ _) (by decide)
      have run : MemInv u := by
        simp only [u]
        split
        · exact fields.of_same (writeRun1_same t) (by decide)
        · exact fields.of_same (writeRun0_same t) (by decide)
      split
      · exact run.of_same (sweepNow_same u) (by decide)
      · exact run
  unfold writeRegister
  split
  · exact hs
  · split
    · exact control
    · split
      · exact hs
      · split
        · exact hs
        · split
          · exact hs
          · split
            · exact hs
            · exact hs

theorem memInv_cardWriteEnds {s : State} (hs : MemInv s) (ok : Bool) : MemInv (cardWriteEnds ok s) := by
  unfold cardWriteEnds
  split
  · exact hs
  · rename_i h _
    have landed : ∀ x, MemInv (land x s) := fun x => land_wf x s hs
    have fails : MemInv (writeFails h s) := hs.of_same (writeFails_same s h) (by decide)
    split
    · split
      · exact (landed _).of_same (dispatchCard_same _ h) (by decide)
      · exact fails
    · split
      · split
        · exact (landed _).of_same (cardWritten_same _ h) (by decide)
        · exact landed _
      · exact fails
    all_goals exact hs

theorem memInv_mutesCard {s : State} (hs : MemInv s) (failAt : Option Nat) (h : Hand) (items : List Byte) :
    MemInv (mutesCard failAt h items s) := by
  have installed : ∀ e fs ts, MemInv (installFlags e fs (landAll ts s)) := fun e fs ts =>
    MemInv.of_same (landAll_wf ts s hs) (installFlags_same _ e fs) (by decide)
  unfold mutesCard
  split
  · exact hs
  · split
    · exact hs
    · exact installed _ _ _

theorem memInv_pageWriteEnds {s : State} (hs : MemInv s) (ok : Bool) : MemInv (pageWriteEnds ok s) := by
  have landed : ∀ x m, MemInv ((land x s).setMeter m) := fun x _ => land_wf x s hs
  unfold pageWriteEnds
  split
  · split
    · simp only []
      split
      · exact landed _ _
      · exact MemInv.of_same (landed _ _) ((endSnapshot_same _ _ _).after (raise_same _ _ _) (rs := [.notice, .reader])
          (by decide) (by decide)) (by decide)
    · exact hs.of_same ((endSnapshot_same _ _ _).after (ps := [.meter, .regs, .notice]) (by simp [sameOutside_iff])
        (rs := [.meter, .regs, .notice, .reader]) (by decide) (by decide)) (by decide)
  · exact hs
  · exact hs

theorem memInv_reportTransferEnds {s : State} (hs : MemInv s) (ok : Bool) : MemInv (reportTransferEnds ok s) := by
  have landed : ∀ x, MemInv (land x s) := fun x => land_wf x s hs
  unfold reportTransferEnds
  split
  · exact hs
  · split
    · split
      · simp only []
        split
        · exact landed _
        · exact landed _
      · exact hs
    all_goals exact hs

theorem memInv_longEnds {s : State} (hs : MemInv s) (k : LongKind) (failAt : Option Nat) : MemInv (longEnds k failAt s) := by
  have dropped : ∀ ts, MemInv (dropLong k (landAll ts s)) := fun ts =>
    MemInv.of_same (landAll_wf ts s hs) (dropLong_same _ k) (by decide)
  have done : ∀ ts n, MemInv (progressOccasion (countFinished .linkPort n (dropLong k (landAll ts s)))) := fun ts n =>
    ((dropped ts).of_same (countFinished_same _ _ n) (by decide)).of_same (progressOccasion_same _) (by decide)
  unfold longEnds
  split
  · exact hs
  · split
    · exact hs
    · extract_lets ts
      split
      · split
        · exact (dropped _).of_same (setFault_same _ _ _) (by decide)
        · exact done _ _
      · exact done _ _

theorem memInv_progressEnded {s : State} (hs : MemInv s) (ok : Bool) : MemInv (progressEnded ok s) := by
  unfold progressEnded
  split
  · exact hs
  · rename_i x _
    extract_lets p u v
    have landed : MemInv u := by
      cases ok
      · exact hs
      · exact land_wf x s hs
    have judged : MemInv v := by
      cases ok
      · exact landed.of_same (setFault_same _ _ _) (by decide)
      · exact landed
    split
    · exact judged.of_same (progressOccasion_same _) (by decide)
    · exact judged

theorem memInv_noticeEnded {s : State} (hs : MemInv s) (ok : Bool) : MemInv (noticeEnded ok s) := by
  unfold noticeEnded
  split
  · exact hs
  · rename_i w _
    split
    · exact hs
    · cases ok
      · have failed : SameOutside [.regs, .notice] (s.setNotice s.notice.ended) (noticeFailed w (s.setNotice s.notice.ended)) :=
          .ite (by simp [sameOutside_iff]) (setFault_same _ _ _)
        exact MemInv.of_same (s := s.setNotice s.notice.ended) (t := noticeFailed w _) hs failed (by decide)
      · exact land_wf w.transfer (s.setNotice s.notice.ended) hs

/-- Settles O4: the commands that write host memory do so by whole transfers, which keep the canonical form. -/
theorem hostMemoryKeepsCanonicalForm : Obligations.HostMemoryKeepsCanonicalForm := fun _ _ => by
  refine step_keeps_law memInv_kept fun c concerned u hu => ?_
  cases c with
  | powerOnReset | linkReset | engineReset => exact memInv_resetAll _ hu
  | registerWrite offset width w => exact memInv_writeRegister hu offset width w
  | meterPageWriteEnd ok => exact memInv_pageWriteEnds hu ok
  | cardWriteEnd ok => exact memInv_cardWriteEnds hu ok
  | mutes failAt => exact onCard_keeps hu fun h items _ => memInv_mutesCard hu failAt h items
  | reportTransferEnd ok => exact memInv_reportTransferEnds hu ok
  | longCardCompletion k failAt => exact memInv_longEnds hu k failAt
  | progressWriteEnd ok => exact memInv_progressEnded hu ok
  | noticeWriteEnd ok => exact memInv_noticeEnded hu ok
  | _ => exact absurd concerned Bool.false_ne_true

/-- Settles O15: a command that is not listed cannot change host memory, and neither can settling. -/
theorem onlyEndsOfWritesReachHostMemory : Obligations.OnlyEndsOfWritesReachHostMemory := by
  intro c s t h
  have unchanged (apart : Part.hostMem ∉ touches c) (a : Nat) : t.readHost a = s.readHost a := by
    have kept : t.hostMem = s.hostMem := exec_same h .hostMem (by decide) apart
    rw [State.readHost, kept, State.readHost]
  cases c with
  | powerOnReset | linkReset | engineReset | registerWrite | cardWriteEnd | mutes | meterPageWriteEnd | reportTransferEnd
  | longCardCompletion | progressWriteEnd | noticeWriteEnd => trivial
  | _ => exact unchanged (by simp [touches])

end Sys2Proof.Machine
end

section
/-! The bits of FAULT are sticky (R162). -/

namespace Sys2Proof.Machine

/-- Setting one bit of FAULT sets it, and leaves every other bit. -/
@[simp] theorem setFault_hasFault (u : Raiser) (b : FaultBit) (s : State) (g : FaultBit) :
    (setFault u b s).hasFault g = (s.hasFault g || decide (g = b)) := by
  simp only [State.hasFault, setFault_regs]
  cases b <;> cases g <;> simp [FaultBit.num]

section
variable {g : FaultBit} {s : State}

theorem hasFault_of_regs {t : State} (hs : s.hasFault g = true) (same : t.regs = s.regs) : t.hasFault g = true := by
  rwa [State.hasFault, same]

theorem hasFault_of_same {ps : List Part} {t : State} (hs : s.hasFault g = true) (same : SameOutside ps s t)
    (apart : Part.regs ∉ ps) : t.hasFault g = true :=
  hasFault_of_regs hs (same .regs apart)

theorem hasFault_setFault (hs : s.hasFault g = true) (u : Raiser) (b : FaultBit) : (setFault u b s).hasFault g = true := by
  simp [hs]

theorem hasFault_kept (g : FaultBit) : KeptByEnds [.regs] fun s => s.hasFault g = true where
  speaks s t same hs := hasFault_of_regs hs (same .regs (by decide))
  apart := by decide
  ends d s hs := hasFault_of_regs hs (dueEffect_regs d s)
  stopping s hs := hasFault_of_regs hs (finishStopping_regs s)

theorem hasFault_haltReader (hs : s.hasFault g = true) : (haltReader s).hasFault g = true := by
  have set := hasFault_setFault hs .reader .memory
  simp only [haltReader]
  split
  · exact hasFault_of_same set (readerOff_same _) (by decide)
  · exact hasFault_of_regs set rfl

theorem hasFault_loseLane (hs : s.hasFault g = true) (l : Fin 4) : (loseLane l s).hasFault g = true :=
  hasFault_setFault (s := s.setMix (s.mix.unlockLane l)) (hasFault_of_regs hs rfl) .mix .lane

theorem hasFault_judgeLanes (hs : s.hasFault g = true) (markers : BitVec 4) : (judgeLanes markers s).hasFault g = true := by
  refine List.foldlRecOn (motive := fun t => t.hasFault g = true) _ (judgeLane markers) hs fun t ht l _ => ?_
  unfold judgeLane
  extract_lets u
  have earned : u.hasFault g = true := by
    simp only [u]
    split
    · exact hasFault_of_regs ht rfl
    · exact ht
  split
  · split
    · exact earned
    · exact hasFault_loseLane earned l
  · exact hasFault_of_regs earned rfl

theorem hasFault_samplePeriod (hs : s.hasFault g = true) (lanes : Vector LaneWord 32) (markers : BitVec 4) :
    (samplePeriod lanes markers s).hasFault g = true := by
  unfold samplePeriod
  split
  · extract_lets t
    have opened : t.hasFault g = true := by
      simp only [t]
      split
      · exact hasFault_of_regs hs rfl
      · exact hs
    split
    · exact hs
    · split
      · exact hasFault_of_same (hasFault_judgeLanes opened markers) (computeSample_same _ _ _) (by decide)
      · exact hs
  · exact hs

theorem hasFault_loseClock (hs : s.hasFault g = true) : (loseClock s).hasFault g = true := by
  unfold loseClock
  split
  · have set := hasFault_setFault (s := s.setMix (s.mix.lose (decide (s.engine.state = .loading)))) (hasFault_of_regs hs rfl)
      .mix .clock
    exact hasFault_of_same set (finishStopping_same _) (by decide)
  · exact hs

theorem hasFault_loadEnds (hs : s.hasFault g = true) (answers : Bool) : (loadEnds answers s).hasFault g = true := by
  have faulted : ∀ c b u, u.hasFault g = true → (faultIf c b u).hasFault g = true := by
    intro c b u hu
    unfold faultIf
    split
    · exact hasFault_setFault hu _ _
    · exact hu
  unfold loadEnds
  split
  · exact faulted _ _ _ (faulted _ _ _ (hasFault_of_same hs (install_same s _) (by decide)))
  · exact hs

theorem hasFault_rootRead (hs : s.hasFault g = true) (data : LinkRead 64) : (rootRead data s).hasFault g = true := by
  unfold rootRead
  split
  · split
    · exact hasFault_setFault (s := (s.setRoot none).setEngine { s.engine with state := .stopped, run := false })
        (hasFault_of_regs hs rfl) _ _
    · split
      · exact hasFault_of_regs hs rfl
      · exact hasFault_of_regs hs rfl
  · exact hs

theorem hasFault_pageWriteEnds (hs : s.hasFault g = true) (ok : Bool) : (pageWriteEnds ok s).hasFault g = true := by
  have ended : ∀ r hold u, u.hasFault g = true → (endSnapshot r hold u).hasFault g = true := fun r hold u hu =>
    hasFault_of_same hu (endSnapshot_same u r hold) (by decide)
  unfold pageWriteEnds
  split
  · split
    · simp only []
      split
      · exact hasFault_of_regs hs rfl
      · exact ended _ _ _ (hasFault_of_same (ps := [.hostMem, .meter, .notice]) hs (by simp [sameOutside_iff]) (by decide))
    · exact ended _ _ _ (hasFault_setFault (s := s.setMeter { s.meter with writer := none, hold := none })
        (hasFault_of_regs hs rfl) _ _)
  · exact hs
  · exact hs

theorem hasFault_slotReadEnds (hs : s.hasFault g = true) (data : LinkRead 64) : (slotReadEnds data s).hasFault g = true := by
  have bytes : ∀ r v, (slotBytes r v s).hasFault g = true := by
    intro r v
    simp only [slotBytes]
    split
    · split
      · exact hasFault_of_regs hs rfl
      · split
        · exact hasFault_of_regs hs rfl
        · exact hasFault_of_regs hs rfl
    · exact hasFault_of_regs hs rfl
  unfold slotReadEnds
  split
  · split
    · exact bytes _ _
    · exact hasFault_haltReader hs
    · exact hs
  · exact hs

theorem hasFault_cardWriteEnds (hs : s.hasFault g = true) (ok : Bool) : (cardWriteEnds ok s).hasFault g = true := by
  unfold cardWriteEnds
  split
  · exact hs
  · rename_i h _
    have landed : ∀ x, (land x s).hasFault g = true := fun _ => hasFault_of_regs hs rfl
    have fails : (writeFails h s).hasFault g = true := by
      refine hasFault_haltReader ?_
      split
      · exact hs
      · exact hasFault_of_regs hs rfl
    split
    · split
      · exact hasFault_of_same (landed _) (dispatchCard_same _ h) (by decide)
      · exact fails
    · split
      · split
        · exact hasFault_of_same (landed _) (cardWritten_same _ h) (by decide)
        · exact hasFault_of_regs hs rfl
      · exact fails
    all_goals exact hs

theorem hasFault_longEnds (hs : s.hasFault g = true) (k : LongKind) (failAt : Option Nat) :
    (longEnds k failAt s).hasFault g = true := by
  have dropped : ∀ ts, (dropLong k (landAll ts s)).hasFault g = true := fun ts =>
    hasFault_of_same (hasFault_of_same hs (landAll_same s ts) (by decide)) (dropLong_same _ k) (by decide)
  have done : ∀ ts n, (progressOccasion (countFinished .linkPort n (dropLong k (landAll ts s)))).hasFault g = true :=
    fun ts n => hasFault_of_same (hasFault_of_same (dropped ts) (countFinished_same _ _ n) (by decide))
      (progressOccasion_same _) (by decide)
  unfold longEnds
  split
  · exact hs
  · split
    · exact hs
    · extract_lets ts
      split
      · split
        · exact hasFault_setFault (dropped _) _ _
        · exact done _ _
      · exact done _ _

theorem hasFault_progressEnded (hs : s.hasFault g = true) (ok : Bool) : (progressEnded ok s).hasFault g = true := by
  unfold progressEnded
  split
  · exact hs
  · rename_i x _
    extract_lets p u v
    have landed : u.hasFault g = true := by
      cases ok
      · exact hasFault_of_regs hs rfl
      · exact hasFault_of_regs hs rfl
    have judged : v.hasFault g = true := by
      cases ok
      · exact hasFault_setFault landed _ _
      · exact landed
    split
    · exact hasFault_of_same judged (progressOccasion_same _) (by decide)
    · exact judged

theorem hasFault_markFault (hs : s.hasFault g = true) (b : FaultBit) : (markFault b s).hasFault g = true :=
  hasFault_of_regs (hasFault_setFault hs .notice b) (setFault_regs .notice b s).symm

theorem hasFault_noticeEnded (hs : s.hasFault g = true) (ok : Bool) : (noticeEnded ok s).hasFault g = true := by
  unfold noticeEnded
  split
  · exact hs
  · rename_i w _
    split
    · exact hs
    · extract_lets t u
      have ended : t.hasFault g = true := hasFault_of_regs hs rfl
      have failed : (noticeFailed w t).hasFault g = true := by
        unfold noticeFailed
        split
        · exact hasFault_markFault ended _
        · exact hasFault_setFault ended _ _
      cases ok
      · exact hasFault_of_regs failed rfl
      · exact hasFault_of_regs ended rfl

end

/-- Settles O14: every command that changes FAULT, a power-on reset and the host's writes apart, only sets bits of it. -/
theorem faultBitsAreSticky : Obligations.FaultBitsAreSticky := by
  intro c g s t not_power_on not_clear not_write hs h
  refine exec_keeps (hasFault_kept g) (fun concerned u hu => ?_) hs t h
  cases c with
  | powerOnReset => exact absurd rfl not_power_on
  | faultClear w => exact absurd rfl (not_clear w)
  | registerWrite offset width w => exact absurd rfl (not_write offset width w)
  | linkReset | engineReset =>
    have kept : (landHanded (landProgress u)).regs = u.regs :=
      Eq.trans (landHanded_same (landProgress u) .regs (by decide)) (landProgress_same u .regs (by decide))
    simpa [act, resetAll, resetUnits, State.hasFault, Regs.afterReset, kept] using hu
  | storeLoadEnd answers => exact hasFault_loadEnds hu answers
  | rootReadEnd data => exact hasFault_rootRead hu data
  | clockLoss => exact hasFault_loseClock hu
  | laneLoss l =>
    simp only [act]
    split
    · exact hasFault_loseLane hu l
    · exact hu
  | meterPageWriteEnd ok => exact hasFault_pageWriteEnds hu ok
  | slotRead data => exact hasFault_slotReadEnds hu data
  | cardWriteEnd ok => exact hasFault_cardWriteEnds hu ok
  | longCardCompletion k failAt => exact hasFault_longEnds hu k failAt
  | progressWriteEnd ok => exact hasFault_progressEnded hu ok
  | noticeWriteEnd ok => exact hasFault_noticeEnded hu ok
  | sampleComputation lanes markers => exact hasFault_samplePeriod hu lanes markers
  | _ => exact absurd concerned Bool.false_ne_true

end Sys2Proof.Machine
end

section
/-! The pickup records under the operations on them, and the protected items (R188). -/

namespace Sys2Proof.Machine

/-! ### A pickup record at a block end and at its ends -/

/-- What no block end and no end of a count writes of a pickup record: its settings, its mute flag and its mute gain. -/
def Pickup.settings (p : Pickup) : Nat × Nat × RingGroup × Bool × Nat := (p.floor, p.limit, p.ring, p.muteFlag, p.muteGain)

theorem Pickup.monitor_settings (bit : Bool) (p : Pickup) : (p.monitor bit).1.settings = p.settings := by
  unfold Pickup.monitor
  extract_lets h q
  split
  · rfl
  · split
    · rfl
    · split <;> rfl

theorem Pickup.blockEnd_settings (m : Nat × Nat) (p : Pickup) : (p.blockEnd m).1.settings = p.settings := by
  have watched : ∀ q : Pickup, q.settings = p.settings →
      (if m.1 < p.floor ∧ p.limit ≤ q.silence then (q, PickupOutcome.silenceDue) else q.monitor (p.riseBit m.2)).1.settings
        = p.settings := by
    intro q hq
    split
    · exact hq
    · exact (q.monitor_settings _).trans hq
  unfold Pickup.blockEnd
  split
  · rfl
  · simp only [Pickup.presenceTest]
    split <;> rfl
  · exact watched _ rfl
  · exact watched _ rfl

theorem Pickup.goSilent_settings (p : Pickup) : p.goSilent.settings = p.settings := rfl
theorem Pickup.endHold_settings (p : Pickup) : p.endHold.settings = p.settings := rfl

theorem Pickup.ring_of_settings {p q : Pickup} (h : q.settings = p.settings) : q.ring = p.ring :=
  congrArg (fun x => x.2.2.1) h

@[simp] theorem Supervisor.setPickup_getElem (u : Supervisor) (i j : Fin 32) (p : Pickup) :
    (u.setPickup i p).pickups[j] = if i = j then p else u.pickups[j] := by
  simp [Supervisor.setPickup, Vector.getElem_set, Fin.ext_iff]

@[simp] theorem Supervisor.setPickup_emitterGain (u : Supervisor) (i : Fin 32) (p : Pickup) :
    (u.setPickup i p).emitterGain = u.emitterGain := rfl
@[simp] theorem Supervisor.setPickup_emitterFlag (u : Supervisor) (i : Fin 32) (p : Pickup) :
    (u.setPickup i p).emitterFlag = u.emitterFlag := rfl

theorem pickupActs_sup (b : Block) (s : State) (i : Fin 32) : (pickupActs b s i).sup =
    s.sup.setPickup i (s.sup.pickups[i].blockEnd (b.pickups[i].closed.peak, b.pickups[i].closed.energy)).1 := by
  simp only [pickupActs]
  split <;> rfl

/-! ### The protected items -/

theorem protectedItems_eq {s t : State} (ceilings : t.budget.ceilings = s.budget.ceilings) (slots : t.tails.slots = s.tails.slots)
    (rings : ∀ p : Fin 32, t.sup.pickups[p].ring = s.sup.pickups[p].ring) : protectedItems t = protectedItems s := by
  have all : t.sup.pickups.map Pickup.ring = s.sup.pickups.map Pickup.ring := by
    ext p hp
    simpa using rings ⟨p, hp⟩
  simp only [protectedItems, ceilings, slots, all]

/-- An operation that touches neither budget unit, nor tail bank, nor supervisor leaves the protected items. -/
theorem protectedItems_of_same {ps : List Part} {s t : State} (same : SameOutside ps s t)
    (apart : [Part.budget, .tails, .sup].any ps.contains = false) : protectedItems t = protectedItems s := by
  have speaks : SpeaksOf [.budget, .tails, .sup] fun u => protectedItems u = protectedItems s := by
    intro u v kept hu
    have budget : v.budget = u.budget := kept .budget (by decide)
    have tails : v.tails = u.tails := kept .tails (by decide)
    have sup : v.sup = u.sup := kept .sup (by decide)
    simpa only [protectedItems, budget, tails, sup] using hu
  exact speaks.keeps same apart rfl

/-- An operation on one pickup record that leaves its settings leaves every ring group. -/
theorem protectedItems_setPickup (s : State) (i : Fin 32) {p : Pickup} (h : p.settings = s.sup.pickups[i].settings) :
    protectedItems (s.setSup (s.sup.setPickup i p)) = protectedItems s := by
  refine protectedItems_eq rfl rfl fun j => ?_
  rw [State.setSup_sup, Supervisor.setPickup_getElem]
  split
  · rename_i same
    subst same
    exact Pickup.ring_of_settings h
  · rfl

theorem protectedItems_kept (x : Vector Nat 96 × Vector (Option Patch) 8 × Vector RingGroup 32) :
    KeptByEnds [.budget, .tails, .sup] fun s => protectedItems s = x where
  speaks s t same hs := by
    have budget : t.budget = s.budget := same .budget (by decide)
    have tails : t.tails = s.tails := same .tails (by decide)
    have sup : t.sup = s.sup := same .sup (by decide)
    simpa only [protectedItems, budget, tails, sup] using hs
  apart := by decide
  ends d s hs := by
    refine Eq.trans ?_ hs
    cases d with
    | silence p => exact protectedItems_setPickup s p (Pickup.goSilent_settings _)
    | ringHold p => exact protectedItems_setPickup s p (Pickup.endHold_settings _)
    | ramp | removal | dipLow | dipUp | fade | meter | holdoff =>
      exact protectedItems_of_same (dueEffect_touches s _) rfl
  stopping s hs := (protectedItems_of_same (finishStopping_same s) (by decide)).trans hs

/-! ### The operations that write a unit that holds protected items -/

/-- A reset leaves ceilings, slots and ring groups: the load installs them (R88, R192). -/
theorem protectedItems_resetAll (powerOn : Bool) (s : State) : protectedItems (resetAll powerOn s) = protectedItems s := by
  have landed : protectedItems (landHanded (landProgress s)) = protectedItems s :=
    (protectedItems_of_same (landHanded_same _) (by decide)).trans
      (protectedItems_of_same (landProgress_same s) (by decide))
  refine Eq.trans (protectedItems_eq (s := landHanded (landProgress s)) rfl rfl fun p => ?_) landed
  simp [resetAll, resetUnits, Supervisor.afterReset, Pickup.afterReset]

theorem protectedItems_silenceEmitters (s : State) : protectedItems (silenceEmitters s) = protectedItems s := rfl

theorem protectedItems_writeRun0 (s : State) : protectedItems (writeRun0 s) = protectedItems s := by
  have entered : protectedItems (enterStopping s) = protectedItems s := by
    unfold enterStopping
    extract_lets _ t
    have stopped : protectedItems t = protectedItems s := protectedItems_of_same
      (s := s.setEngine { s.engine with state := .stopping, run := false }) (stopReader_same _) (by decide)
    refine (protectedItems_of_same (finishStopping_same _) (by decide)).trans ?_
    split
    · exact stopped
    · exact (protectedItems_silenceEmitters t).trans stopped
  unfold writeRun0
  split
  · rfl
  · exact entered
  all_goals rfl

theorem protectedItems_writeRegister (offset : Nat) (width : AccessWidth) (w : Word) (s : State) :
    protectedItems (writeRegister offset width w s) = protectedItems s := by
  have control : protectedItems (writeControl w s) = protectedItems s := by
    unfold writeControl
    split
    · exact protectedItems_resetAll false s
    · extract_lets t u
      have fields : protectedItems t = protectedItems s :=
        (protectedItems_of_same (writeVectorCount_same _ _) (by decide)).trans
          (protectedItems_of_same (writeNoticeEnable_same s _) (by decide))
      have run : protectedItems u = protectedItems s := by
        simp only [u]
        split
        · exact (protectedItems_of_same (writeRun1_same t) (by decide)).trans fields
        · exact (protectedItems_writeRun0 t).trans fields
      split
      · exact (protectedItems_of_same (sweepNow_same u) (by decide)).trans run
      · exact run
  unfold writeRegister
  split
  · rfl
  · split
    · exact control
    · split
      · rfl
      · split
        · rfl
        · split
          · rfl
          · split <;> rfl

theorem protectedItems_pickupsAct (b : Block) (s : State) : protectedItems (pickupsAct b s) = protectedItems s := by
  refine List.foldlRecOn (motive := fun t => protectedItems t = protectedItems s) _ (pickupActs b) rfl fun t ht i _ => ?_
  refine Eq.trans ?_ ht
  have same := pickupActs_same t b i
  refine (protectedItems_eq ?_ ?_ fun p => ?_).trans 
    (protectedItems_setPickup t i (Pickup.blockEnd_settings (b.pickups[i].closed.peak, b.pickups[i].closed.energy) _))
  · exact congrArg Budget.ceilings (same .budget (by decide))
  · exact congrArg TailBank.slots (same .tails (by decide))
  · rw [pickupActs_sup]
    rfl

theorem protectedItems_blockEndStep (s : State) : protectedItems (blockEndStep s) = protectedItems s := by
  have ramps : protectedItems (rampsAct s) = protectedItems s := by
    refine protectedItems_eq rfl rfl fun p => ?_
    simp [rampsAct, Supervisor.moveGains]
  unfold blockEndStep
  split
  · rename_i b _
    exact ((((protectedItems_of_same (closeBlock_same _ b) (by decide)).trans
      (protectedItems_of_same (holdoffActs_same _) (by decide))).trans
      (protectedItems_of_same (metersAct_same _ b) (by decide))).trans (protectedItems_pickupsAct b _)).trans
      ((protectedItems_of_same (fadeActs_same _) (by decide)).trans ramps)
  · rfl

theorem protectedItems_takeGo (src : GoSource) (s : State) : protectedItems (takeGo src s).1 = protectedItems s := by
  have same := takeGo_same s src
  refine protectedItems_eq (ceilings_of_limits (takeGo_limits src s)) ?_ fun p => ?_
  · exact congrArg TailBank.slots (same .tails (by decide))
  · have sup : (takeGo src s).1.sup = s.sup := same .sup (by decide)
    rw [sup]

/-- While the state guards, a ceiling item passes only where it leaves the ceiling (R38). -/
theorem ceilingItem_guarded {p : ProtState} (guards : p.guards = true) {x y : Vector Nat 96 × Vector Bool 96} {i : CeilingItem}
    (h : ceilingItem p x i = .ok y) : y.1 = x.1 := by
  unfold ceilingItem at h
  split at h
  · split at h
    · cases h
    · rename_i same
      cases h
      have stands : i.ceiling = x.1[i.emitter] := by simpa [guards] using same
      simp [stands]
  · cases h

/-- While the state guards, a patch item passes only where it leaves the slot (R115). -/
theorem patchItem_guarded {p : ProtState} (guards : p.guards = true) {table : List Entry}
    {ds : Vector (Option (Fin 40)) 16} {x y : Vector (Option Patch) 8} {i : PatchItem}
    (h : patchItem p table ds x i = .ok y) : y = x := by
  unfold patchItem at h
  split at h
  · cases h
  · split at h
    · split at h
      · cases h; rfl
      · simp at h
    · cases h

theorem setEnable_settings (on : Bool) (p : Pickup) : (p.setEnable on).settings = p.settings := by
  unfold Pickup.setEnable
  split <;> rfl

/-- While the state guards, a pickup item passes only where it leaves the ring group (R131). -/
theorem pickupItem_guarded {p : ProtState} (guards : p.guards = true) {x y : Vector Pickup 32 × Nat} {i : PickupItem}
    (h : pickupItem p x i = .ok y) (j : Fin 32) : y.1[j].ring = x.1[j].ring := by
  unfold pickupItem at h
  split at h
  · split at h
    · cases h
    · extract_lets c at h
      split at h
      · cases h
      · rename_i same
        cases h
        have stands : c.ring = x.1[i.pickup].ring := by simpa [guards] using same
        by_cases here : i.pickup = j.val
        · have written := Pickup.ring_of_settings (setEnable_settings (i.enable == 1) (x.1[i.pickup].setSettings c))
          simp [here] at written stands ⊢
          exact written.trans stands
        · simp [here]
  · cases h

/-- A sample writes the delay memories of the tail bank alone (R106). -/
theorem samplePeriod_slots (lanes : Vector LaneWord 32) (markers : BitVec 4) (s : State) :
    (samplePeriod lanes markers s).tails.slots = s.tails.slots := by
  have computed (b : Block) (t : State) : (computeSample lanes b (judgeLanes markers t)).tails.slots = t.tails.slots := by
    have judged : (judgeLanes markers t).tails = t.tails := judgeLanes_same t markers .tails (by decide)
    simp [computeSample, takeTailInputs, judged]
  unfold samplePeriod
  split
  · extract_lets t
    have opened : t.tails = s.tails := by
      simp only [t]
      split <;> rfl
    split
    · rfl
    · split
      · rw [computed, opened]
      · rfl
  · rfl

/-- The act of a command other than the end of a store load leaves the protected items while the state guards (R188). -/
theorem protectedItems_act {c : Instr} {s : State} (guards : s.prot.state.guards = true) (not_load : ∀ a, c ≠ .storeLoadEnd a)
    (concerned : concerns [.budget, .tails, .sup] c = true) : protectedItems (act c s) = protectedItems s := by
  have card : ∀ {k : CardKind} {f : Hand → List Byte → State → State},
      (∀ h items, protectedItems (f h items s) = protectedItems s) → protectedItems (onCard k f s) = protectedItems s :=
    fun hf => onCard_keeps (P := fun t => protectedItems t = protectedItems s) rfl fun h items _ => hf h items
  cases c with
  | storeLoadEnd answers => exact absurd rfl (not_load answers)
  | powerOnReset | linkReset | engineReset => exact protectedItems_resetAll _ s
  | registerWrite offset width w => exact protectedItems_writeRegister offset width w s
  | runStop => exact protectedItems_writeRun0 s
  | clockReturn =>
    simp only [act, returnClock]
    split
    · rfl
    · rfl
  | blockEnd => exact protectedItems_blockEndStep s
  | lineGo =>
    simp only [act]
    split
    · exact protectedItems_takeGo .line (s.setStager { s.stager with lineGos := s.stager.lineGos - 1 })
    · rfl
  | go => exact card fun h _ => protectedItems_takeGo .card s
  | ceilings =>
    refine card fun h items => protectedItems_eq ?_ rfl fun _ => rfl
    exact applyItems_keeps (P := fun x => x.1 = s.budget.ceilings)
      (fun _ _ _ hx h => (ceilingItem_guarded guards h).trans hx) _ _ (s.budget.ceilings, _) rfl
  | tails => exact card fun h items => rfl
  | patches =>
    refine card fun h items => protectedItems_eq rfl ?_ fun _ => rfl
    exact applyItems_keeps (P := fun x => x = s.tails.slots)
      (fun _ _ _ hx h => (patchItem_guarded guards h).trans hx) _ _ _ rfl
  | pickups =>
    refine card fun h items => protectedItems_eq rfl rfl ?_
    exact applyItems_keeps (P := fun x => ∀ p : Fin 32, x.1[p].ring = s.sup.pickups[p].ring)
      (fun _ _ _ hx h p => (pickupItem_guarded guards h p).trans (hx p)) _ _ (s.sup.pickups, 0) fun _ => rfl
  | mutes failAt =>
    refine card fun h items => protectedItems_eq ?_ ?_ fun p => ?_
    · exact congrArg Budget.ceilings (mutesCard_same s failAt h items .budget (by decide))
    · exact congrArg TailBank.slots (mutesCard_same s failAt h items .tails (by decide))
    · unfold mutesCard
      split
      · rfl
      · split
        · rfl
        · simp only [muteRun, complete_sup, installFlags]
          split
          · simp
          · simp
  | sampleComputation lanes markers =>
    have same := samplePeriod_same s lanes markers
    refine protectedItems_eq ?_ ?_ fun p => ?_
    · exact congrArg Budget.ceilings (same .budget (by decide))
    · exact samplePeriod_slots lanes markers s
    · have sup : (samplePeriod lanes markers s).sup = s.sup := same .sup (by decide)
      rw [act, sup]
  | _ => exact absurd concerned Bool.false_ne_true

/-- Settles O13: of the acts that could change a protected item, each leaves all of them while the state is LOCKED or FIXED, and
settling changes none. -/
theorem protectedItemsChangeOnlyByLoad : Obligations.ProtectedItemsChangeOnlyByLoad := by
  intro c s t state not_load h
  have law := protectedItems_kept (protectedItems s)
  have prot : (before c s).prot = s.prot := before_same c s .prot (by decide)
  have guards : (before c s).prot.state.guards = true := by
    rw [prot]
    rcases state with state | state <;> rw [state] <;> rfl
  rw [exec_eq_next_iff] at h
  subst h
  have settled := law.before (s := s) rfl c
  cases he : endOf c with
  | some d =>
    rw [act_of_end he]
    exact law.takeDue settled d
  | none =>
    cases ht : [Part.budget, .tails, .sup].any (touches c).contains with
    | true => exact (protectedItems_act guards not_load (by simp only [concerns, he, ht]; rfl)).trans settled
    | false => exact law.speaks.keeps (act_touches c _) ht settled

end Sys2Proof.Machine
end

section
/-! Run control: how the engine state moves (R84 to R88), and what RUN, the reader, the card in hand and the root have to do with
it. -/

namespace Sys2Proof.Machine

/-! ### The moves of the engine -/

/-- The end of STOPPING leaves the state, or takes a STOPPING engine to STOPPED with RUN 0 or to STARTING with RUN 1 (R87). -/
theorem finishStopping_cases (s : State) : finishStopping s = s
    ∨ (s.engine.state = .stopping ∧ s.reader.state = .off
      ∧ ((s.engine.run = false ∧ finishStopping s = s.setEngine { s.engine with state := .stopped })
        ∨ (s.engine.run = true ∧ finishStopping s = beginStart s))) := by
  cases done : stoppingDone s with
  | false => exact .inl (by simp [finishStopping, done])
  | true =>
    obtain ⟨stopping, off, _⟩ := (stoppingDone_iff s).1 done
    refine .inr ⟨stopping, off, ?_⟩
    cases run : s.engine.run with
    | false => exact .inl ⟨rfl, by simp [finishStopping, endStopping, done, run]⟩
    | true => exact .inr ⟨rfl, by simp [finishStopping, endStopping, done, run]⟩

/-- A stop takes the engine to STOPPING, or through it to STOPPED at once, with RUN 0 (R87). -/
theorem enterStopping_engine (s : State) :
    (enterStopping s).engine.run = false
      ∧ ((enterStopping s).engine.state = .stopping
        ∨ ((enterStopping s).engine.state = .stopped ∧ (enterStopping s).reader.state = .off)) := by
  unfold enterStopping
  extract_lets _ t
  have stopping : t.engine = { s.engine with state := .stopping, run := false } :=
    stopReader_same (s.setEngine { s.engine with state := .stopping, run := false }) .engine (by decide)
  have silenced : ∀ u : State, u.engine = t.engine → (finishStopping u).engine.run = false
      ∧ ((finishStopping u).engine.state = .stopping
        ∨ ((finishStopping u).engine.state = .stopped ∧ (finishStopping u).reader.state = .off)) := by
    intro u same
    have run : u.engine.run = false := by rw [same, stopping]
    have state : u.engine.state = .stopping := by rw [same, stopping]
    rcases finishStopping_cases u with stands | ⟨_, off, ⟨_, ended⟩ | ⟨run', _⟩⟩
    · rw [stands]
      exact ⟨run, .inl state⟩
    · rw [ended]
      exact ⟨run, .inr ⟨rfl, off⟩⟩
    · rw [run] at run'
      cases run'
  split
  · exact silenced _ rfl
  · exact silenced _ rfl

/-- The engine stays, or moves as R84's table has it. -/
def EngineMoves (s t : State) : Prop :=
  t.engine.state = s.engine.state ∨ (s.engine.state, t.engine.state) ∈ engineMoves

theorem EngineMoves.of_states {s t : State} {a b : EngineState} (hs : s.engine.state = a) (ht : t.engine.state = b)
    (listed : (a, b) ∈ engineMoves) : EngineMoves s t := .inr (by rwa [hs, ht])

theorem EngineMoves.of_engine {s t : State} (h : t.engine = s.engine) : EngineMoves s t := .inl (congrArg Engine.state h)

section
variable (s : State)

theorem engineMoves_finishStopping : EngineMoves s (finishStopping s) := by
  rcases finishStopping_cases s with stands | ⟨stopping, _, ⟨_, ended⟩ | ⟨_, begun⟩⟩
  · exact .of_engine (by rw [stands])
  · exact .of_states stopping (by rw [ended]; rfl) (b := .stopped) (by decide)
  · exact .of_states stopping (by rw [begun]; rfl) (b := .starting) (by decide)

theorem engineMoves_writeRun1 : EngineMoves s (writeRun1 s) := by
  unfold writeRun1
  split
  · exact .of_engine rfl
  · exact .of_engine rfl
  · rename_i stopped
    split
    · exact .of_engine rfl
    · exact .of_states stopped rfl (b := .starting) (by decide)
  · exact .inl rfl
  · exact .inl rfl

theorem engineMoves_writeRun0 : EngineMoves s (writeRun0 s) := by
  unfold writeRun0
  split
  · exact .of_engine rfl
  · rename_i running
    obtain ⟨_, stopping | ⟨stopped, _⟩⟩ := enterStopping_engine s
    · exact .of_states running stopping (by decide)
    · exact .of_states running stopped (by decide)
  all_goals exact .inl rfl

theorem engineMoves_rootRead (data : LinkRead 64) : EngineMoves s (rootRead data s) := by
  unfold rootRead
  split
  · rename_i starting
    have stopped : (failStart s).engine.state = .stopped := by simp [failStart]
    split
    · exact .of_states starting stopped (by decide)
    · split
      · exact .of_states starting rfl (b := .running) (by decide)
      · exact .of_states starting rfl (b := .stopped) (by decide)
  · exact .of_engine rfl

theorem loadEnds_engine (answers : Bool) (h : s.engine.state = .loading) :
    (loadEnds answers s).engine = { s.engine with state := .stopped } := by
  have faulted (c : Bool) (b : FaultBit) (u : State) : (faultIf c b u).engine = u.engine := by
    unfold faultIf
    split
    · exact setFault_engine _ _ _
    · rfl
  simp only [loadEnds, if_pos h, loadImage, faulted]
  rfl

theorem engineMoves_loseClock : EngineMoves s (loseClock s) := by
  unfold loseClock
  split
  · exact engineMoves_finishStopping (setFault .mix .clock (s.setMix (s.mix.lose (decide (s.engine.state = .loading))))) |>.imp
      (fun h => h.trans (by simp)) (by simp)
  · exact .of_engine rfl

end

/-- A write of CONTROL without ENGINE RESET moves the engine by its RUN field alone (R161). -/
theorem engineMoves_writeControl {s : State} {w : Word} (h : w.getLsbD 1 = false) : EngineMoves s (writeControl w s) := by
  rw [writeControl, if_neg (by rw [h]; exact Bool.false_ne_true)]
  extract_lets t u
  have fields : t.engine = s.engine :=
    Eq.trans (writeVectorCount_same (writeNoticeEnable (w.getLsbD 2) s) _ .engine (by decide))
      (writeNoticeEnable_same s _ .engine (by decide))
  have run : EngineMoves t u := by
    simp only [u]
    split
    · exact engineMoves_writeRun1 t
    · exact engineMoves_writeRun0 t
  have swept : (if w.getLsbD 8 = true then sweepNow u else u).engine = u.engine := by
    split
    · exact sweepNow_same u .engine (by decide)
    · rfl
  rwa [EngineMoves, swept, ← fields]

theorem engineMoves_writeRegister {s : State} {offset : Nat} {width : AccessWidth} {w : Word}
    (h : ¬ (width = .word ∧ offset = 4 ∧ w.getLsbD 1 = true)) : EngineMoves s (writeRegister offset width w s) := by
  unfold writeRegister
  split
  · exact .of_engine rfl
  · rename_i word
    split
    · rename_i control
      have no_reset : w.getLsbD 1 = false := by
        cases bit : w.getLsbD 1 with
        | false => rfl
        | true => exact absurd ⟨by simpa using word, control, bit⟩ h
      exact engineMoves_writeControl no_reset
    · split
      · exact .of_engine rfl
      · split
        · exact .of_engine rfl
        · split
          · exact .of_engine rfl
          · split <;> exact .of_engine rfl

/-- Settles O16: each act that writes the engine moves it as listed, or is a reset. -/
theorem engineMovesOnlyAsListed : Obligations.EngineMovesOnlyAsListed := by
  intro c s t settled h
  rw [exec_of_settled settled] at h
  cases h
  have moves (h : EngineMoves s (act c s)) : (act c s).engine.state = s.engine.state
      ∨ (s.engine.state, (act c s).engine.state) ∈ engineMoves
      ∨ ((act c s).engine.state = .loading ∧
          (c = .powerOnReset ∨ c = .linkReset ∨ c = .engineReset
            ∨ ∃ w : Word, c = .registerWrite 4 .word w ∧ w.getLsbD 1 = true)) := h.imp_right .inl
  have stands (apart : Part.engine ∉ touches c) := moves (.of_engine (act_touches c s .engine apart))
  cases c with
  | powerOnReset | linkReset | engineReset => exact .inr (.inr ⟨rfl, by simp⟩)
  | storeLoadEnd answers =>
    refine moves ?_
    by_cases loading : s.engine.state = .loading
    · exact .of_states loading (b := .stopped)
        (congrArg Engine.state (loadEnds_engine s answers loading)) (by decide)
    · exact .of_engine (by simp only [act, loadEnds, if_neg loading])
  | runStart => exact moves (engineMoves_writeRun1 s)
  | runStop => exact moves (engineMoves_writeRun0 s)
  | rootReadEnd data => exact moves (engineMoves_rootRead s data)
  | stoppingEnd => exact moves (engineMoves_finishStopping s)
  | clockLoss => exact moves (engineMoves_loseClock s)
  | registerWrite offset width w =>
    by_cases reset : width = .word ∧ offset = 4 ∧ w.getLsbD 1 = true
    · obtain ⟨rfl, rfl, bit⟩ := reset
      have done : writeRegister 4 .word w s = resetAll false s := by simp [writeRegister, writeControl, bit]
      exact .inr (.inr ⟨by rw [act, done]; rfl, .inr (.inr (.inr ⟨w, rfl, bit⟩))⟩)
    · exact moves (engineMoves_writeRegister reset)
  | _ => exact stands (by simp [touches])

end Sys2Proof.Machine
end

section
/-! The protection unit's laws (R184 to R187, R192). -/

namespace Sys2Proof.Machine

/-! ### The laws of the protection unit, apart from the engine -/

/-- The laws of R184 and R186, which hold whatever the engine does. -/
structure CodeFits (p : Protect) : Prop where
  none : p.state = .none → p.code = none
  held : p.state = .locked ∨ p.state = .opened → p.code.isSome = true
  wrong : p.wrong ≤ 5

/-- The state is FIXED exactly where the fuse is blown (R187, R192). -/
def FuseFits (p : Protect) : Prop := p.state = .isFixed ↔ p.fuseBlown = true

theorem protInv_iff (s : State) : ProtInv s ↔ CodeFits s.prot ∧ (s.engine.state ≠ .loading → FuseFits s.prot) :=
  ⟨fun ⟨no_code, held, wrong, fuse⟩ => ⟨⟨no_code, held, wrong⟩, fuse⟩,
    fun ⟨⟨no_code, held, wrong⟩, fuse⟩ => ⟨no_code, held, wrong, fuse⟩⟩

/-- The laws rest on the engine only in that it is LOADING. -/
theorem ProtInv.of_prot {s t : State} (h : ProtInv s) (prot : t.prot = s.prot)
    (awake : t.engine.state ≠ .loading → s.engine.state ≠ .loading) : ProtInv t := by
  rw [protInv_iff] at h ⊢
  rw [prot]
  exact ⟨h.1, fun loaded => h.2 (awake loaded)⟩

theorem finishStopping_awake_iff (s : State) : (finishStopping s).engine.state ≠ .loading ↔ s.engine.state ≠ .loading := by
  rcases finishStopping_cases s with stands | ⟨stopping, _, ⟨_, ended⟩ | ⟨_, begun⟩⟩
  · rw [stands]
  · simp [ended, stopping]
  · simp [begun, beginStart, stopping]

theorem protInv_kept : KeptByEnds [.prot, .engine] ProtInv where
  speaks s t same hs := hs.of_prot (same .prot (by decide)) (by
    have engine : t.engine = s.engine := same .engine (by decide)
    rw [engine]
    exact id)
  apart := by decide
  ends d s hs := hs.of_prot (dueEffect_prot d s) (by rw [dueEffect_engine]; exact id)
  stopping s hs := hs.of_prot (finishStopping_prot s) (finishStopping_awake_iff s).1

/-! ### The actions of a PROTECT card -/

/-- What every action of a PROTECT card keeps: the laws of the code, and of the fuse where they hold. -/
def ProtKept (p q : Protect) : Prop := (CodeFits p → CodeFits q) ∧ (FuseFits p → FuseFits q)

theorem ProtKept.refl (p : Protect) : ProtKept p p := ⟨id, id⟩

/-- A comparison keeps the laws where a match does: with 5 wrong codes it counts no further (R186). -/
theorem protKept_compareCode (code : Code) {matched : Protect → Protect} {p : Protect} (h : ProtKept p (matched p)) :
    ProtKept p (compareCode code matched p).2 := by
  unfold compareCode
  split
  · exact .refl p
  · split
    · exact h
    · exact ⟨fun ⟨no_code, held, _⟩ => ⟨no_code, held, by simp only; omega⟩, id⟩

theorem protKept_setCode (code : Code) (p : Protect) : ProtKept p (protSetCode code p).2 := by
  cases hp : p.state with
  | none | opened =>
    simp only [protSetCode, hp]
    exact ⟨fun fits => ⟨nofun, fun _ => rfl, fits.wrong⟩, fun fuse => by simpa [FuseFits, hp] using fuse⟩
  | locked | isFixed =>
    simp only [protSetCode, hp]
    exact .refl p

theorem protKept_unlock (code : Code) (p : Protect) : ProtKept p (protUnlock code p).2 := by
  cases hp : p.state with
  | locked =>
    simp only [protUnlock, hp]
    refine protKept_compareCode code ⟨fun fits => ⟨nofun, fun _ => fits.held (.inl hp), Nat.zero_le _⟩, fun fuse => ?_⟩
    simpa [FuseFits, hp] using fuse
  | none | opened | isFixed =>
    simp only [protUnlock, hp]
    exact .refl p

theorem protKept_relock (p : Protect) : ProtKept p (protRelock p).2 := by
  cases hp : p.state with
  | opened =>
    simp only [protRelock, hp]
    exact ⟨fun fits => ⟨nofun, fun _ => fits.held (.inr hp), fits.wrong⟩, fun fuse => by simpa [FuseFits, hp] using fuse⟩
  | none | locked | isFixed =>
    simp only [protRelock, hp]
    exact .refl p

theorem protKept_clearCode (code : Code) (p : Protect) : ProtKept p (protClearCode code p).2 := by
  cases hp : p.state with
  | locked | opened =>
    simp only [protClearCode, hp]
    exact protKept_compareCode code ⟨fun fits => ⟨fun _ => rfl, by simp, fits.wrong⟩, fun fuse => by
      simpa [FuseFits, hp] using fuse⟩
  | none | isFixed =>
    simp only [protClearCode, hp]
    exact .refl p

theorem protKept_blowResult (blown : Bool) (p : Protect) : ProtKept p (blowResult blown p).2 := by
  cases blown with
  | false => exact .refl p
  | true => exact ⟨fun fits => ⟨nofun, by simp [blowResult], fits.wrong⟩, fun _ => by simp [FuseFits, blowResult]⟩

theorem ProtInv.of_kept {s t : State} (h : ProtInv s) (prot : ProtKept s.prot t.prot) (engine : t.engine = s.engine) :
    ProtInv t := by
  rw [protInv_iff] at h ⊢
  rw [engine]
  exact ⟨prot.1 h.1, fun loaded => prot.2 (h.2 loaded)⟩

theorem ProtInv.protectAct {s : State} (h : ProtInv s) (a : ProtAction) {f : Hand → Protect → Result × Protect}
    (hf : ∀ h p, ProtKept p (f h p).2) : ProtInv (protectAct a f s) := by
  refine h.of_kept ?_ (protectAct_same a f s .engine (by decide))
  unfold Machine.protectAct onCard
  split
  · simp only [protectCard]
    split
    · exact .refl _
    · split
      · exact hf _ _
      · exact .refl _
  · exact .refl _

/-! ### The load (R192) -/

/-- What a load installs: no code with NONE, a code with LOCKED and OPEN. -/
def Loaded.fits (x : Loaded) : Prop := (x.state = .none → x.code = none) ∧ (x.state ≠ .none → x.code.isSome = true)

theorem Image.loaded_fits (i : Image) : i.loaded.fits := by
  constructor
  · intro h
    simpa [Image.loaded, Image.heldCode] using h
  · intro h
    have other : i.state ≠ .none := h
    simp [Image.loaded, Image.heldCode, other]

theorem Loaded.defaults_fits : Loaded.defaults.fits := ⟨fun _ => rfl, fun h => absurd rfl h⟩

/-- The state a load installs is FIXED exactly with a blown fuse, whatever the image says (R192). -/
theorem fuseState_isFixed_iff (blown : Bool) (st : ProtState) : fuseState blown st = .isFixed ↔ blown = true := by
  cases blown with
  | true => simp [fuseState]
  | false => cases st <;> simp [fuseState]

theorem protInv_install (x : Loaded) (hx : x.fits) (s : State) : ProtInv (install x s) := by
  obtain ⟨no_code, code⟩ := hx
  have installed : (install x s).prot =
      { s.prot with state := fuseState s.prot.fuseBlown x.state, code := x.code, wrong := 0 } := rfl
  rw [protInv_iff, installed]
  refine ⟨⟨fun h => no_code ?_, fun h => code ?_, Nat.zero_le _⟩, fun _ => fuseState_isFixed_iff _ _⟩
  · revert h
    cases s.prot.fuseBlown <;> cases x.state <;> simp [fuseState]
  · intro no_state
    revert h
    cases s.prot.fuseBlown <;> simp [fuseState, no_state]

theorem ProtInv.loadEnds {s : State} (h : ProtInv s) (answers : Bool) : ProtInv (loadEnds answers s) := by
  have faulted : ∀ c b u, ProtInv u → ProtInv (faultIf c b u) := by
    intro c b u hu
    unfold faultIf
    split
    · exact hu.of_prot (setFault_prot _ _ _) (by rw [setFault_engine]; exact id)
    · exact hu
  unfold Machine.loadEnds
  split
  · unfold loadImage
    extract_lets x
    refine faulted _ _ _ (faulted _ _ _ (protInv_install x ?_ s))
    simp only [x]
    cases imageOfBytes (flashRead answers s) with
    | none => exact Loaded.defaults_fits
    | some i => exact i.loaded_fits
  · exact h

/-! ### Resets and registers -/

/-- A reset leaves state, code and fuse, and a LOADING engine; only the wrong codes are forgotten (R183, R192). -/
theorem resetAll_prot (powerOn : Bool) (s : State) : (resetAll powerOn s).prot = { s.prot with wrong := 0 } := by
  have landed : (landHanded (landProgress s)).prot = s.prot :=
    Eq.trans (landHanded_same (landProgress s) .prot (by decide)) (landProgress_same s .prot (by decide))
  simp [resetAll, resetUnits, landed]

theorem ProtInv.resetAll {s : State} (h : ProtInv s) (powerOn : Bool) : ProtInv (resetAll powerOn s) := by
  rw [protInv_iff] at h ⊢
  rw [resetAll_prot]
  exact ⟨⟨h.1.none, h.1.held, Nat.zero_le _⟩, fun loaded => absurd rfl loaded⟩

theorem writeRun1_awake (s : State) (h : (writeRun1 s).engine.state ≠ .loading) : s.engine.state ≠ .loading := by
  rintro loading
  simp [writeRun1, loading] at h

theorem writeRun0_awake (s : State) (h : (writeRun0 s).engine.state ≠ .loading) : s.engine.state ≠ .loading := by
  rintro loading
  simp [writeRun0, loading] at h

theorem ProtInv.writeControl {s : State} (h : ProtInv s) (w : Word) : ProtInv (writeControl w s) := by
  unfold Machine.writeControl
  split
  · exact h.resetAll false
  · extract_lets t u
    have fields : ProtInv t := protInv_kept.speaks.keeps (writeVectorCount_same _ _) (by decide)
      (protInv_kept.speaks.keeps (writeNoticeEnable_same s _) (by decide) h)
    have run : ProtInv u := by
      simp only [u]
      split
      · exact fields.of_prot (writeRun1_same t .prot (by decide)) (writeRun1_awake t)
      · exact fields.of_prot (writeRun0_same t .prot (by decide)) (writeRun0_awake t)
    split
    · exact protInv_kept.speaks.keeps (sweepNow_same u) (by decide) run
    · exact run

theorem ProtInv.writeRegister {s : State} (h : ProtInv s) (offset : Nat) (width : AccessWidth) (w : Word) :
    ProtInv (writeRegister offset width w s) := by
  unfold Machine.writeRegister
  split
  · exact h
  · split
    · exact h.writeControl w
    · split
      · exact h.of_prot rfl id
      · split
        · exact h.of_prot rfl id
        · split
          · exact h.of_prot rfl id
          · split
            · exact h.of_prot rfl id
            · exact h

/-- Every act keeps the laws of the protection unit. -/
theorem protInv_act (c : Instr) (concerned : concerns [.prot, .engine] c = true) (s : State) (h : ProtInv s) :
    ProtInv (act c s) := by
  cases c with
  | powerOnReset | linkReset | engineReset => exact h.resetAll _
  | storeLoadEnd answers => exact h.loadEnds answers
  | runStart => exact h.of_prot (writeRun1_same s .prot (by decide)) (writeRun1_awake s)
  | runStop => exact h.of_prot (writeRun0_same s .prot (by decide)) (writeRun0_awake s)
  | registerWrite offset width w => exact h.writeRegister offset width w
  | rootReadEnd data =>
    refine h.of_prot (rootRead_same s data .prot (by decide)) fun loaded loading => loaded ?_
    simp [act, rootRead, loading]
  | stoppingEnd => exact h.of_prot (finishStopping_prot s) (finishStopping_awake_iff s).1
  | clockLoss =>
    refine h.of_prot (loseClock_same s .prot (by decide)) fun loaded => ?_
    simp only [act, loseClock] at loaded
    split at loaded
    · simpa using (finishStopping_awake_iff _).1 loaded
    · exact loaded
  | setCode => exact h.protectAct _ fun _ _ => protKept_setCode _ _
  | unlock => exact h.protectAct _ fun _ _ => protKept_unlock _ _
  | relock => exact h.protectAct _ fun _ _ => protKept_relock _
  | clearCode => exact h.protectAct _ fun _ _ => protKept_clearCode _ _
  | fix =>
    have stands (x : Hand) : (fixCard x s).prot = s.prot := by
      unfold fixCard
      split <;> rfl
    refine h.of_kept ?_ (act_touches .fix s .engine (by decide))
    refine onCard_keeps (P := fun t => ProtKept s.prot t.prot) (.refl _) fun x _ _ => ?_
    simp only [protectCard]
    split
    · exact .refl _
    · split
      · rw [stands]
        exact .refl _
      · exact .refl _
  | fuseBlowEnd blown =>
    refine h.of_kept ?_ (blowEnds_same s blown .engine (by decide))
    simp only [act, blowEnds]
    split
    · exact .refl _
    · split
      · exact protKept_blowResult blown s.prot
      all_goals exact .refl _
  | _ => exact absurd concerned Bool.false_ne_true

/-! ### The fuse -/

theorem fuseBlown_kept : KeptByEnds [.prot] fun s => s.prot.fuseBlown = true where
  speaks s t same hs := by
    have prot : t.prot = s.prot := same .prot (by decide)
    simpa only [prot] using hs
  apart := by decide
  ends d s hs := by simpa only [dueEffect_prot] using hs
  stopping s hs := by simpa only [finishStopping_prot] using hs

theorem fuseBlown_compareCode (code : Code) {matched : Protect → Protect} (h : ∀ p, (matched p).fuseBlown = p.fuseBlown)
    (p : Protect) : (compareCode code matched p).2.fuseBlown = p.fuseBlown := by
  unfold compareCode
  split
  · rfl
  · split
    · exact h p
    · rfl

theorem fuseBlown_protectAct (a : ProtAction) {f : Hand → Protect → Result × Protect}
    (hf : ∀ h p, (f h p).2.fuseBlown = p.fuseBlown) (s : State) : (protectAct a f s).prot.fuseBlown = s.prot.fuseBlown := by
  unfold protectAct onCard
  split
  · simp only [protectCard]
    split
    · rfl
    · split
      · exact hf _ _
      · rfl
  · rfl

theorem fuseBlown_loadEnds (answers : Bool) (s : State) : (loadEnds answers s).prot.fuseBlown = s.prot.fuseBlown := by
  have faulted (c : Bool) (b : FaultBit) (u : State) : (faultIf c b u).prot = u.prot := by
    unfold faultIf
    split
    · exact setFault_prot _ _ _
    · rfl
  unfold loadEnds
  split
  · simp only [loadImage, faulted]
    rfl
  · rfl

theorem fuseBlown_writeRegister (offset : Nat) (width : AccessWidth) (w : Word) (s : State) :
    (writeRegister offset width w s).prot.fuseBlown = s.prot.fuseBlown := by
  have control : (writeControl w s).prot.fuseBlown = s.prot.fuseBlown := by
    unfold writeControl
    split
    · rw [resetAll_prot]
    · extract_lets t u
      have fields : t.prot = s.prot := Eq.trans (writeVectorCount_same (writeNoticeEnable (w.getLsbD 2) s) _ .prot (by decide))
        (writeNoticeEnable_same s _ .prot (by decide))
      have run : u.prot = t.prot := by
        simp only [u]
        split
        · exact writeRun1_same t .prot (by decide)
        · exact writeRun0_same t .prot (by decide)
      split
      · rw [show (sweepNow u).prot = u.prot from sweepNow_same u .prot (by decide), run, fields]
      · rw [run, fields]
  unfold writeRegister
  split
  · rfl
  · split
    · exact control
    · split
      · rfl
      · split
        · rfl
        · split
          · rfl
          · split <;> rfl

/-- No act makes a blown fuse intact (R187). -/
theorem fuseBlown_act (c : Instr) (concerned : concerns [.prot] c = true) (s : State) (h : s.prot.fuseBlown = true) :
    (act c s).prot.fuseBlown = true := by
  cases c with
  | powerOnReset | linkReset | engineReset =>
    rw [act, resetAll_prot]
    exact h
  | storeLoadEnd answers => exact (fuseBlown_loadEnds answers s).trans h
  | registerWrite offset width w => exact (fuseBlown_writeRegister offset width w s).trans h
  | setCode =>
    refine (fuseBlown_protectAct _ (fun x p => ?_) s).trans h
    unfold protSetCode
    split <;> rfl
  | unlock =>
    refine (fuseBlown_protectAct _ (fun x p => ?_) s).trans h
    unfold protUnlock
    split
    · rfl
    · exact fuseBlown_compareCode x.code (matched := fun q => { q with state := .opened, wrong := 0 }) (fun _ => rfl) p
    · rfl
    · rfl
  | relock =>
    refine (fuseBlown_protectAct _ (fun x p => ?_) s).trans h
    unfold protRelock
    split <;> rfl
  | clearCode =>
    refine (fuseBlown_protectAct _ (fun x p => ?_) s).trans h
    unfold protClearCode
    split
    · rfl
    · exact fuseBlown_compareCode x.code (matched := fun q => { q with state := .none, code := none }) (fun _ => rfl) p
    · exact fuseBlown_compareCode x.code (matched := fun q => { q with state := .none, code := none }) (fun _ => rfl) p
    · rfl
  | fix =>
    refine onCard_keeps (P := fun t => t.prot.fuseBlown = true) h fun x _ _ => ?_
    simp only [protectCard]
    split
    · exact h
    · split
      · unfold fixCard
        split
        · exact h
        · exact h
      · exact h
  | fuseBlowEnd blown =>
    simp only [act, blowEnds]
    split
    · exact h
    · split
      · cases blown
        · exact h
        · rfl
      all_goals exact h
  | _ => exact absurd concerned Bool.false_ne_true

/-- Settles O11: every act keeps the unit's laws, and none makes a blown fuse intact. -/
theorem protectionStaysConsistent : Obligations.ProtectionStaysConsistent :=
  ⟨fun _ _ hs h => step_keeps_law protInv_kept protInv_act hs h,
    fun _ _ hs h => step_keeps_law fuseBlown_kept fuseBlown_act hs h⟩

end Sys2Proof.Machine
end

section
/-! Run control stays consistent: RUN, the reader, the card in hand and the root agree with the engine state (R84 to R87, R163, R165,
R171). -/

namespace Sys2Proof.Machine

/-! ### What an operation of the reader does -/

/-- An operation that may only let the reader go OFF and the card go out of hand, in agreement with each other. -/
structure ReaderRests (s t : State) : Prop where
  engine : t.engine = s.engine
  root : t.root = s.root
  on : t.reader.state ≠ .off → s.reader.state ≠ .off
  hand : t.reader.hand.isSome = true → t.reader.state = .sweeping

theorem RunInv.of_rests {s t : State} (h : RunInv s) (r : ReaderRests s t) : RunInv t := by
  obtain ⟨engine, root, on, hand⟩ := r
  obtain ⟨loading, stopped, running, reader, _, rooted⟩ := h
  constructor
  · rwa [engine]
  · rwa [engine]
  · rwa [engine]
  · rw [engine]
    exact fun off => reader (on off)
  · exact hand
  · rwa [engine, root]

/-- The reader state and whether a card is in hand: what `RunInv` says of the reader. -/
def Reader.stance (r : Reader) : ReaderState × Bool := (r.state, r.hand.isSome)

theorem RunInv.of_stance {s t : State} (h : RunInv s) (engine : t.engine = s.engine) (root : t.root = s.root)
    (stance : t.reader.stance = s.reader.stance) : RunInv t := by
  obtain ⟨state, hand⟩ := Prod.mk.inj stance
  exact h.of_rests ⟨engine, root, fun on => by rwa [state] at on, fun held => by rw [state]; exact h.hand (by rwa [← hand])⟩

theorem RunInv.of_same {ps : List Part} {s t : State} (h : RunInv s) (same : SameOutside ps s t)
    (apart : [Part.engine, .reader, .root].any ps.contains = false) : RunInv t := by
  have speaks : SpeaksOf [.engine, .reader, .root] RunInv := fun u v kept hu =>
    hu.of_stance (kept .engine (by decide)) (kept .root (by decide)) (by
      have reader : v.reader = u.reader := kept .reader (by decide)
      rw [reader])
  exact speaks.keeps same apart h

/-! ### Run control -/

theorem RunInv.beginStart {s : State} (h : RunInv s) (off : s.reader.state = .off) : RunInv (beginStart s) where
  loading := nofun
  stopped := nofun
  running := nofun
  reader on := absurd off on
  hand := h.hand
  root := by simp [Machine.beginStart]

theorem RunInv.finishStopping {s : State} (h : RunInv s) : RunInv (finishStopping s) := by
  rcases finishStopping_cases s with stands | ⟨_, off, ⟨run, ended⟩ | ⟨_, begun⟩⟩
  · rwa [stands]
  · rw [ended]
    exact ⟨nofun, fun _ => run, nofun, fun on => absurd off on, h.hand, by simp⟩
  · rw [begun]
    exact h.beginStart off

theorem runInv_kept : KeptByEnds [.engine, .reader, .root] RunInv where
  speaks s t same hs := hs.of_stance (same .engine (by decide)) (same .root (by decide)) (by
    have reader : t.reader = s.reader := same .reader (by decide)
    rw [reader])
  apart := by decide
  ends d s hs := hs.of_stance (dueEffect_engine d s) (dueEffect_root d s) (by rw [dueEffect_reader])
  stopping s hs := hs.finishStopping

/-- While the engine is neither RUNNING nor STOPPING the reader is OFF (R165). -/
theorem RunInv.off {s : State} (h : RunInv s) (running : s.engine.state ≠ .running) (stopping : s.engine.state ≠ .stopping) :
    s.reader.state = .off := by
  by_contra on
  exact (h.reader on).elim running stopping

theorem RunInv.writeRun1 {s : State} (h : RunInv s) : RunInv (writeRun1 s) := by
  unfold Machine.writeRun1
  split
  · exact h
  · exact h
  · rename_i stopped
    split
    · exact h
    · exact h.beginStart (h.off (by simp [stopped]) (by simp [stopped]))
  all_goals
    rename_i state
    exact ⟨by simp [state], by simp [state], fun _ => rfl, h.reader, h.hand, h.root⟩

/-- A stop leaves the reader OFF, or SWEEPING with a card in hand (R171). -/
theorem stopReader_rests {s : State} (hand : s.reader.hand.isSome = true → s.reader.state = .sweeping) :
    ReaderRests s (stopReader s) := by
  refine ⟨stopReader_same s .engine (by decide), stopReader_same s .root (by decide), ?_, ?_⟩
  · unfold stopReader
    split
    · exact id
    · simp
    · simp
    · split
      · exact id
      · simp [readerOff]
  · unfold stopReader
    split
    · exact hand
    · rename_i idle
      intro held
      exact absurd (hand held) (by simp [idle])
    · rename_i halted
      intro held
      exact absurd (hand held) (by simp [halted])
    · rename_i sweeping
      split
      · exact fun _ => sweeping
      · simp [readerOff]

theorem RunInv.enterStopping {s : State} (h : RunInv s) (running : s.engine.state = .running) : RunInv (enterStopping s) := by
  have stopping : RunInv (s.setEngine { s.engine with state := .stopping, run := false }) :=
    ⟨nofun, nofun, nofun, fun _ => .inr rfl, h.hand, fun _ => h.root (.inl running)⟩
  unfold Machine.enterStopping
  extract_lets _ t
  have stopped : RunInv t := stopping.of_rests (stopReader_rests h.hand)
  refine RunInv.finishStopping ?_
  split
  · exact stopped
  · exact stopped.of_same (silenceEmitters_same t) (by decide)

theorem RunInv.writeRun0 {s : State} (h : RunInv s) : RunInv (writeRun0 s) := by
  unfold Machine.writeRun0
  split
  · exact h
  · rename_i running
    exact h.enterStopping running
  all_goals
    rename_i state
    exact ⟨fun _ => rfl, fun _ => rfl, by simp [state], h.reader, h.hand, h.root⟩

theorem RunInv.sweepNow {s : State} (h : RunInv s) : RunInv (sweepNow s) := by
  unfold Machine.sweepNow
  split
  · exact h
  · rename_i idle
    exact h.of_rests ⟨rfl, rfl, by simp [idle], fun _ => rfl⟩
  · rename_i halted
    exact h.of_rests ⟨rfl, rfl, by simp [halted], fun _ => rfl⟩
  · exact h.of_stance rfl rfl rfl

theorem runInv_resetAll (powerOn : Bool) (s : State) : RunInv (resetAll powerOn s) :=
  ⟨fun _ => rfl, fun _ => rfl, nofun, fun on => absurd rfl on, nofun, by simp [resetAll, resetUnits]⟩

theorem RunInv.writeControl {s : State} (h : RunInv s) (w : Word) : RunInv (writeControl w s) := by
  unfold Machine.writeControl
  split
  · exact runInv_resetAll false s
  · extract_lets t u
    have fields : RunInv t := (h.of_same (writeNoticeEnable_same s _) (by decide)).of_same (writeVectorCount_same _ _) (by decide)
    have run : RunInv u := by
      simp only [u]
      split
      · exact fields.writeRun1
      · exact fields.writeRun0
    split
    · exact run.sweepNow
    · exact run

theorem RunInv.writeRegister {s : State} (h : RunInv s) (offset : Nat) (width : AccessWidth) (w : Word) :
    RunInv (writeRegister offset width w s) := by
  have other : ∀ t : State, t.engine = s.engine → t.root = s.root → t.reader = s.reader → RunInv t :=
    fun t engine root reader => h.of_stance engine root (by rw [reader])
  unfold Machine.writeRegister
  split
  · exact h
  · split
    · exact h.writeControl w
    · split
      · exact other _ rfl rfl rfl
      · split
        · exact other _ rfl rfl rfl
        · split
          · exact other _ rfl rfl rfl
          · split
            · exact other _ rfl rfl rfl
            · exact h

/-- RUNNING begins with the reader IDLE and the root held; a failed start leaves no root and RUN 0 (R86, R163). -/
theorem RunInv.rootRead {s : State} (h : RunInv s) (data : LinkRead 64) : RunInv (rootRead data s) := by
  unfold Machine.rootRead
  split
  · rename_i starting
    have off : s.reader.state = .off := h.off (by simp [starting]) (by simp [starting])
    have no_card : s.reader.hand.isSome = true → False := fun held => by
      have sweeping := h.hand held
      rw [off] at sweeping
      cases sweeping
    split
    · have failed : RunInv ((s.setRoot none).setEngine { s.engine with state := .stopped, run := false }) :=
        ⟨nofun, fun _ => rfl, nofun, fun on => absurd off on, fun held => (no_card held).elim, by simp⟩
      exact failed.of_same (setFault_same _ _ _) (by decide)
    · split
      · rename_i run
        exact ⟨nofun, nofun, fun _ => run, fun _ => .inl rfl, by simp [enterRunning], fun _ => rfl⟩
      · rename_i run
        exact ⟨nofun, fun _ => by simpa using run, nofun, fun on => absurd off on, fun held => (no_card held).elim, by simp⟩
  · exact h

theorem RunInv.loadEnds {s : State} (h : RunInv s) (answers : Bool) : RunInv (loadEnds answers s) := by
  by_cases loading : s.engine.state = .loading
  · have reader : (Machine.loadEnds answers s).reader = s.reader := loadEnds_same s answers .reader (by decide)
    have off : s.reader.state = .off := h.off (by simp [loading]) (by simp [loading])
    have engine := loadEnds_engine s answers loading
    constructor
    · simp [engine]
    · rw [engine]
      exact fun _ => h.loading loading
    · simp [engine]
    · rw [reader]
      exact fun on => absurd off on
    · rw [reader]
      exact h.hand
    · simp [engine]
  · simpa only [Machine.loadEnds, if_neg loading] using h

theorem RunInv.loseClock {s : State} (h : RunInv s) : RunInv (loseClock s) := by
  unfold Machine.loseClock
  split
  · refine RunInv.finishStopping ?_
    exact RunInv.of_same (s := s.setMix (s.mix.lose (decide (s.engine.state = .loading)))) (h.of_stance rfl rfl rfl)
      (setFault_same _ _ _) (by decide)
  · exact h

/-! ### The card reader -/

theorem ReaderRests.trans {s t u : State} (h : ReaderRests s t) (k : ReaderRests t u) : ReaderRests s u :=
  ⟨k.engine.trans h.engine, k.root.trans h.root, fun on => h.on (k.on on), k.hand⟩

theorem haltReader_rests {s : State} (on : s.reader.state ≠ .off) : ReaderRests s (haltReader s) := by
  refine ⟨by simp, by simp, fun _ => on, ?_⟩
  simp only [haltReader]
  split
  · simp [readerOff]
  · simp

theorem afterCard_rests {s : State} (h : s.reader.hand = none) : ReaderRests s (afterCard s) := by
  refine ⟨by simp, by simp, ?_, ?_⟩
  · unfold afterCard
    split
    · simp [readerOff]
    · exact id
  · unfold afterCard
    split
    · simp [readerOff]
    · simp [h]

theorem keepLong_rests (k : LongKind) (x : Hand) (s : State) : ReaderRests s (keepLong k x s) := by
  have passed : ReaderRests s (passCard x (s.setReader (s.reader.setLong k (some { addr := x.addr, notify := x.notify, outcome := none })))) :=
    ⟨rfl, rfl, by simp [passCard], by simp [passCard]⟩
  exact passed.trans (afterCard_rests rfl)

theorem RunInv.of_hand {s t : State} (h : RunInv s) {x : Hand} (hand : s.reader.hand = some x) (engine : t.engine = s.engine)
    (root : t.root = s.root) (state : t.reader.state = s.reader.state) : RunInv t :=
  h.of_rests ⟨engine, root, fun on => by rwa [state] at on, fun _ => by rw [state]; exact h.hand (by simp [hand])⟩

theorem RunInv.on {s : State} (h : RunInv s) {x : Hand} (hand : s.reader.hand = some x) : s.reader.state ≠ .off := by
  have sweeping := h.hand (by simp [hand])
  simp [sweeping]

theorem RunInv.slotReadEnds {s : State} (h : RunInv s) (data : LinkRead 64) : RunInv (slotReadEnds data s) := by
  unfold Machine.slotReadEnds
  split
  · rename_i waits
    have sweeping : s.reader.state = .sweeping := by
      simp only [slotReadInFlight, Bool.and_eq_true, decide_eq_true_eq] at waits
      exact waits.1.1
    have bytes : ∀ r v, (slotBytes r v s).engine = s.engine ∧ (slotBytes r v s).root = s.root
        ∧ (slotBytes r v s).reader.state = s.reader.state := by
      intro r v
      simp only [slotBytes]
      split
      · split
        · exact ⟨rfl, rfl, rfl⟩
        · split
          · exact ⟨rfl, rfl, rfl⟩
          · exact ⟨rfl, rfl, rfl⟩
      · exact ⟨rfl, rfl, rfl⟩
    split
    · obtain ⟨engine, root, state⟩ := bytes ‹_› ‹_›
      exact h.of_rests ⟨engine, root, fun on => by rwa [state] at on, fun _ => by rw [state, sweeping]⟩
    · exact h.of_rests (haltReader_rests (by simp [sweeping]))
    · exact h
  · exact h

theorem RunInv.itemListEnds {s : State} (h : RunInv s) (data : LinkRead 256) : RunInv (itemListEnds data s) := by
  unfold Machine.itemListEnds
  split
  · exact h
  · rename_i x hand
    split
    · split
      · exact h.of_hand hand rfl rfl rfl
      · simp only []
        split
        · exact h.of_hand hand rfl rfl rfl
        · exact h.of_hand hand rfl rfl rfl
    all_goals exact h

theorem RunInv.cardWriteEnds {s : State} (h : RunInv s) (ok : Bool) : RunInv (cardWriteEnds ok s) := by
  unfold Machine.cardWriteEnds
  split
  · exact h
  · rename_i x hand
    have on := h.on hand
    have fails : RunInv (writeFails x s) := by
      refine RunInv.of_rests ?_ (haltReader_rests ?_)
      · split
        · exact h
        · exact h.of_rests ⟨rfl, rfl, fun _ => on, by simp [passCard]⟩
      · split
        · exact on
        · exact on
    have dispatched : RunInv (dispatchCard x (land (takenTransfer x) s)) := by
      refine h.of_hand hand (dispatchCard_same _ x .engine (by decide)) (dispatchCard_same _ x .root (by decide)) ?_
      unfold dispatchCard
      split
      · rfl
      · split
        · rfl
        · split <;> rfl
    have written : ∀ t, RunInv (cardWritten x (land t s)) := by
      intro t
      have counted : ∀ u : State, u.engine = s.engine → u.root = s.root → u.reader.state = s.reader.state → u.reader.hand = none →
          RunInv (afterCard (countFinished .reader x.notify (u.setReader { u.reader with finished := true }))) := by
        intro u engine root state no_card
        have done : RunInv (u.setReader { u.reader with finished := true }) :=
          h.of_rests ⟨engine, root, fun on => by simpa [state] using on, by simp [no_card]⟩
        have counts : (countFinished .reader x.notify (u.setReader { u.reader with finished := true })).reader.stance
            = (u.setReader { u.reader with finished := true }).reader.stance := by
          unfold countFinished
          split <;> rfl
        refine (done.of_stance (by simp) (by simp) counts).of_rests (afterCard_rests ?_)
        have none := congrArg Prod.snd counts
        simpa [Reader.stance, no_card] using none
      unfold cardWritten
      extract_lets _ u
      refine counted u ?_ ?_ ?_ ?_
      all_goals
        simp only [u]
        split <;> rfl
    split
    · split
      · exact dispatched
      · exact fails
    · split
      · split
        · exact written _
        · exact h.of_hand hand rfl rfl rfl
      · exact fails
    all_goals exact h

theorem RunInv.endSweep {s : State} (h : RunInv s) (done : sweepDone s = true) : RunInv (endSweep s) := by
  simp only [sweepDone, Bool.and_eq_true, decide_eq_true_eq] at done
  obtain ⟨⟨sweeping, no_card⟩, _⟩ := done
  unfold Machine.endSweep
  extract_lets t
  have kept : t.engine = s.engine ∧ t.root = s.root ∧ t.reader = s.reader := by
    simp only [t]
    split <;> simp
  obtain ⟨engine, root, reader⟩ := kept
  have on : s.reader.state ≠ .off := by simp [sweeping]
  split
  · exact h.of_rests ⟨engine, root, fun _ => on, fun _ => rfl⟩
  · refine h.of_rests ⟨engine, root, fun _ => on, fun held => ?_⟩
    have held : t.reader.hand.isSome = true := held
    simp only [Option.isNone_iff_eq_none] at no_card
    simp [reader, no_card] at held

theorem endLong_stance_reader (k : LongKind) (c : Completion) (s : State) : (endLong k c s).reader.stance = s.reader.stance := by
  unfold endLong
  split
  · rfl
  · cases k <;> rfl

theorem RunInv.pageWriteEnds {s : State} (h : RunInv s) (ok : Bool) : RunInv (pageWriteEnds ok s) := by
  have same := pageWriteEnds_same s ok
  refine h.of_stance (same .engine (by decide)) (same .root (by decide)) ?_
  have ended : ∀ r hold (u : State), u.reader = s.reader → (endSnapshot r hold u).reader.stance = s.reader.stance := by
    intro r hold u reader
    unfold endSnapshot
    split
    · rw [endLong_stance_reader, reader]
    · rw [reader]
  unfold Machine.pageWriteEnds
  split
  · split
    · simp only []
      split
      · rfl
      · exact ended _ _ _ rfl
    · exact ended _ _ _ (by simp)
  · rfl
  · rfl

theorem RunInv.longEnds {s : State} (h : RunInv s) (k : LongKind) (failAt : Option Nat) : RunInv (longEnds k failAt s) := by
  have stance := congrArg Prod.snd (longEnds_stance k failAt s)
  have same := longEnds_same s k failAt
  refine h.of_stance (same .engine (by decide)) (same .root (by decide)) ?_
  obtain ⟨state, hand⟩ := Prod.mk.inj stance
  simp only [Reader.stance, state, hand]

/-! ### The cards -/

theorem takeGo_reader (src : GoSource) (s : State) : (takeGo src s).1.reader = s.reader := takeGo_same s src .reader (by decide)

theorem goCard_state (x : Hand) (s : State) : (goCard x s).reader.state = s.reader.state :=
  Eq.trans (b := (takeGo .card s).1.reader.state) rfl (congrArg Reader.state (takeGo_reader .card s))

/-- A card's act leaves the reader state, or keeps the card as a long card. -/
def CardRests (s t : State) : Prop := t.reader.state = s.reader.state ∨ ReaderRests s t

/-- The act of a card's unit, by what the act leaves of the reader. -/
theorem RunInv.onCard {c : Instr} {k : CardKind} {f : Hand → List Byte → State → State} {s : State} (h : RunInv s)
    (hc : act c s = onCard k f s) (apart : [Part.engine, .root].any (touches c).contains = false)
    (rests : ∀ x items, CardRests s (f x items s)) : RunInv (act c s) := by
  have touched := act_touches c s
  have engine : (act c s).engine = s.engine := touched .engine (by
    intro mem
    simp [mem] at apart)
  have root : (act c s).root = s.root := touched .root (by
    intro mem
    simp [mem] at apart)
  rw [hc] at engine root ⊢
  unfold Machine.onCard at engine root ⊢
  split
  · rename_i x items acting
    simp only [acting] at engine root
    rcases rests x items with state | rests
    · exact h.of_hand (actingOn_eq_some acting).1 engine root state
    · exact h.of_rests rests
  · exact h

theorem protectCard_state (a : ProtAction) {f : Hand → State → State} (x : Hand) (s : State)
    (hf : (f x s).reader.state = s.reader.state) : (protectCard a f x s).reader.state = s.reader.state := by
  unfold protectCard
  split
  · rfl
  · split
    · exact hf
    · rfl

/-- Every act keeps run control consistent. -/
theorem runInv_act (c : Instr) (concerned : concerns [.engine, .reader, .root] c = true) (s : State) (h : RunInv s) :
    RunInv (act c s) := by
  cases c with
  | powerOnReset | linkReset | engineReset => exact runInv_resetAll _ s
  | storeLoadEnd answers => exact h.loadEnds answers
  | runStart => exact h.writeRun1
  | runStop => exact h.writeRun0
  | sweepNow => exact h.sweepNow
  | registerWrite offset width w => exact h.writeRegister offset width w
  | rootReadEnd data => exact h.rootRead data
  | stoppingEnd => exact h.finishStopping
  | clockLoss => exact h.loseClock
  | meterPageWriteEnd ok => exact h.pageWriteEnds ok
  | sweepTimerExpiry =>
    simp only [act]
    split
    · rename_i idle
      exact h.of_rests ⟨rfl, rfl, by simp [idle], fun _ => rfl⟩
    · exact h
  | slotRead data => exact h.slotReadEnds data
  | itemListRead data => exact h.itemListEnds data
  | cardWriteEnd ok => exact h.cardWriteEnds ok
  | sweepEnd =>
    simp only [act]
    split
    · exact h.endSweep ‹_›
    · exact h
  | stage =>
    refine h.onCard rfl (by decide) fun x items => .inl ?_
    unfold stageCard
    split <;> rfl
  | standby =>
    refine h.onCard rfl (by decide) fun x items => .inl ?_
    simp only [standbyCard]
    split
    · rfl
    all_goals split <;> rfl
  | dropStandby => exact h.onCard rfl (by decide) fun x items => .inl rfl
  | go => exact h.onCard rfl (by decide) fun x items => .inl (goCard_state x s)
  | ceilings => exact h.onCard rfl (by decide) fun x items => .inl rfl
  | tails => exact h.onCard rfl (by decide) fun x items => .inl rfl
  | patches => exact h.onCard rfl (by decide) fun x items => .inl rfl
  | pickups => exact h.onCard rfl (by decide) fun x items => .inl rfl
  | mutes failAt =>
    refine h.onCard rfl rfl fun x items => .inl ?_
    unfold mutesCard
    split
    · rfl
    · split
      · rfl
      · have reader (e : Bool) (fs : List Bool) (ts : List Transfer) : (installFlags e fs (landAll ts s)).reader = s.reader :=
          Eq.trans (installFlags_same (landAll ts s) e fs .reader (by decide)) (landAll_reader ts s)
        exact Eq.trans (b := (installFlags _ _ (landAll _ s)).reader.state) rfl (congrArg Reader.state (reader _ _ _))
  | snapshot =>
    refine h.onCard rfl (by decide) fun x items => ?_
    unfold snapshotCard
    split
    · exact .inl rfl
    · split
      · exact .inl rfl
      · exact .inl rfl
      · exact .inl rfl
      · rename_i r _ _ _
        have same := takeSnapshot_same s r .card (x.arg 24 1 == 1)
        obtain ⟨engine, root, on, hand⟩ := keepLong_rests .snapshot x (takeSnapshot r .card (x.arg 24 1 == 1) s)
        have reader : (takeSnapshot r .card (x.arg 24 1 == 1) s).reader = s.reader := same .reader (by decide)
        exact .inr ⟨engine.trans (same .engine (by decide)), root.trans (same .root (by decide)), by rwa [reader] at on, hand⟩
  | cueLine =>
    refine h.onCard rfl (by decide) fun x items => .inl ?_
    unfold cueLineCard
    split <;> rfl
  | setCode => exact h.onCard rfl (by decide) fun x items => .inl (protectCard_state _ x s rfl)
  | unlock => exact h.onCard rfl (by decide) fun x items => .inl (protectCard_state _ x s rfl)
  | relock => exact h.onCard rfl (by decide) fun x items => .inl (protectCard_state _ x s rfl)
  | clearCode => exact h.onCard rfl (by decide) fun x items => .inl (protectCard_state _ x s rfl)
  | fix =>
    refine h.onCard rfl (by decide) fun x items => .inl (protectCard_state _ x s ?_)
    unfold fixCard
    split <;> rfl
  | fuseBlowEnd blown =>
    refine h.of_stance (blowEnds_same s blown .engine (by decide)) (blowEnds_same s blown .root (by decide)) ?_
    simp only [act, blowEnds]
    split
    · rfl
    · rename_i hand
      split
      · simp only [Reader.stance, hand]
        rfl
      all_goals rfl
  | store =>
    refine h.onCard rfl (by decide) fun x items => ?_
    unfold storeCardActs
    split
    · exact .inl rfl
    · exact .inl rfl
    · split
      · exact .inl rfl
      · exact .inr ((⟨rfl, rfl, id, h.hand⟩ : ReaderRests s (beginStore s)).trans (keepLong_rests .store x (beginStore s)))
  | storeEraseEnd =>
    refine h.of_stance (eraseEnds_same s .engine (by decide)) (eraseEnds_same s .root (by decide)) ?_
    simp only [act, eraseEnds]
    split
    · rfl
    · exact endLong_stance_reader _ _ _
    all_goals rfl
  | storeVerifyEnd answers =>
    refine h.of_stance (verifyEnds_same s answers .engine (by decide)) (verifyEnds_same s answers .root (by decide)) ?_
    simp only [act, verifyEnds]
    split
    · split
      · exact endLong_stance_reader _ _ _
      · rfl
    all_goals rfl
  | report =>
    refine h.onCard rfl (by decide) fun x items => .inl ?_
    unfold reportCard
    split
    · simp only [reportBegins]
      split <;> rfl
    · rfl
  | reportTransferEnd ok =>
    refine h.of_stance (reportTransferEnds_same s ok .engine (by decide)) (reportTransferEnds_same s ok .root (by decide)) ?_
    simp only [act, reportTransferEnds]
    split
    · rfl
    · rename_i hand
      split
      · split
        · simp only [Reader.stance, hand]
          split <;> rfl
        · simp only [Reader.stance, hand]
          rfl
      all_goals rfl
  | longCardCompletion k failAt => exact h.longEnds k failAt
  | _ => exact absurd concerned Bool.false_ne_true

/-- Settles O9: every act keeps the laws, and so do settling and the ends of a block end. -/
theorem runControlStaysConsistent : Obligations.RunControlStaysConsistent := fun _ _ hs h =>
  step_keeps_law runInv_kept runInv_act hs h

end Sys2Proof.Machine
end

section
/-! The notice unit stays consistent (R180, R181): the laws of the unit under each of its operations, and what every command makes of
it. -/

namespace Sys2Proof.Machine

/-! ### The laws of the unit -/

/-- What every operation of the unit keeps, the write in hand apart: nothing pends while disabled, and the queue holds at most 16. -/
structure NoticeUnit.Orderly (u : NoticeUnit) : Prop where
  disabled : u.enable = false → ∀ v : Fin 8, u.pending[v] = none
  room : u.queue.length ≤ 16

/-- The laws of `NoticeInv`, of a notice unit and the root held. -/
structure NoticeUnit.Lawful (o : Option Root) (u : NoticeUnit) : Prop extends NoticeUnit.Orderly u where
  handed : u.handed = none → u.queue = []
  waits : o.isSome = true → ∀ v : Fin 8, u.pending[v].isSome = true → u.mask.getLsbD v = false → u.queue.length = 16

theorem noticeInv_iff {s : State} : NoticeInv s ↔ s.notice.Lawful s.root :=
  ⟨fun ⟨disabled, room, handed, waits⟩ => ⟨⟨disabled, room⟩, handed, waits⟩,
    fun ⟨⟨disabled, room⟩, handed, waits⟩ => ⟨disabled, room, handed, waits⟩⟩

theorem NoticeUnit.Orderly.handOn {u : NoticeUnit} (h : u.Orderly) : u.handOn.Orderly := by
  refine ⟨by simpa using h.disabled, ?_⟩
  rcases handOn_cases u with ⟨w, ws, _, queue, on⟩ | ⟨_, stands⟩
  · have room := h.room
    rw [queue, List.length_cons] at room
    rw [on]
    exact Nat.le_of_succ_le room
  · rw [stands]
    exact h.room

/-- After handing on, a write is in hand wherever one is queued. -/
theorem handOn_handed (u : NoticeUnit) : u.handOn.handed = none → u.handOn.queue = [] := by
  rcases handOn_cases u with ⟨w, ws, _, _, on⟩ | ⟨handed | queue, stands⟩
  · simp [on]
  · rw [stands]
    intro none
    simp [none] at handed
  · rw [stands]
    exact fun _ => queue

/-- A vector of an enabled unit is made pending. -/
theorem NoticeUnit.Orderly.pend {u : NoticeUnit} (h : u.Orderly) (enabled : u.enable ≠ false) (v : Fin 8) (x : Raising) :
    NoticeUnit.Orderly { u with pending := u.pending.set v (some x) } :=
  ⟨fun disabled => absurd disabled enabled, h.room⟩

theorem NoticeUnit.Orderly.post {u : NoticeUnit} (h : u.Orderly) (enabled : u.enable ≠ false) (r : Root) (v : Fin 8) (x : Raising) :
    (u.post r v x).Orderly := by
  unfold NoticeUnit.post
  split
  · rename_i room
    refine NoticeUnit.Orderly.handOn ⟨h.disabled, ?_⟩
    simpa [NoticeUnit.hasRoom] using room
  · exact h.pend enabled v x

theorem NoticeUnit.Orderly.raise {u : NoticeUnit} (h : u.Orderly) (o : Option Root) (x : Raising) : (u.raise o x).Orderly := by
  unfold NoticeUnit.raise
  extract_lets v
  split
  · exact h
  · rename_i enabled
    split
    · exact h
    · split
      · exact h.pend enabled _ _
      · split
        · exact h.pend enabled _ _
        · exact h.post enabled _ _ _

/-- Posting a vector is lawful: it goes out where there is room, and waits where there is none. -/
theorem NoticeUnit.Lawful.post {o : Option Root} {u : NoticeUnit} (h : u.Lawful o) (enabled : u.enable ≠ false) (r : Root)
    (v : Fin 8) (x : Raising) : (u.post r v x).Lawful o := by
  refine ⟨h.toOrderly.post enabled r v x, ?_, ?_⟩
  · unfold NoticeUnit.post
    split
    · exact handOn_handed _
    · exact h.handed
  · unfold NoticeUnit.post
    split
    · rename_i room
      intro rooted w pends unmasked
      have full := h.waits rooted w (by simpa using pends) (by simpa using unmasked)
      simp [NoticeUnit.hasRoom, full] at room
    · rename_i full
      intro _ _ _ _
      have room := h.room
      simp only [NoticeUnit.hasRoom, decide_eq_true_eq] at full
      show u.queue.length = 16
      omega

theorem NoticeUnit.Lawful.raise {o : Option Root} {u : NoticeUnit} (h : u.Lawful o) (x : Raising) : (u.raise o x).Lawful o := by
  unfold NoticeUnit.raise
  extract_lets v
  split
  · exact h
  · rename_i enabled
    split
    · exact h
    · split
      · exact ⟨h.toOrderly.pend enabled _ _, h.handed, by simp⟩
      · split
        · rename_i masked
          refine ⟨h.toOrderly.pend enabled _ _, h.handed, fun rooted w pends unmasked => ?_⟩
          refine h.waits rooted w ?_ unmasked
          have other : vectorOf u.vectorCode x.kind ≠ w := by
            rintro rfl
            exact absurd (masked.symm.trans unmasked) (by decide)
          rwa [Fin.getElem_fin, Vector.getElem_set_ne _ _ (Fin.val_ne_of_ne other)] at pends
        · exact h.post enabled _ _ _

theorem inOrder_length (u : NoticeUnit) : u.inOrder.length = u.handed.toList.length + u.queue.length := by
  simp [NoticeUnit.inOrder]

/-- With a write in hand wherever one is queued, the writes of the unit and the room left make up 17. -/
theorem NoticeUnit.Orderly.inOrder_add_room {u : NoticeUnit} (h : u.Orderly) (handed : u.handed = none → u.queue = []) :
    u.inOrder.length + u.room = 17 := by
  have room := h.room
  rw [inOrder_length, NoticeUnit.room]
  cases hand : u.handed with
  | none => simp [handed hand]
  | some w =>
    simp only [Option.toList_some, List.length_singleton, Option.isSome_some, if_true]
    omega

theorem vector_listed : ∀ v : Fin 8, v ∈ ([0, 1, 2, 3, 4, 5, 6, 7] : List (Fin 8)) := by decide

theorem mem_goingOut {u : NoticeUnit} {vs : List (Fin 8)} {v : Fin 8} :
    v ∈ u.goingOut vs ↔ v ∈ vs ∧ u.pending[v].isSome = true ∧ u.mask.getLsbD v = false := by
  unfold NoticeUnit.goingOut
  rw [List.mem_filter, Bool.and_eq_true, Bool.not_eq_true']

/-- A flush leaves a vector free to go only where no room is left. -/
theorem NoticeUnit.Orderly.flush {u : NoticeUnit} (h : u.Orderly) (handed : u.handed = none → u.queue = []) (o : Option Root) :
    (u.flush o).Lawful o := by
  unfold NoticeUnit.flush
  split
  · exact ⟨h, handed, by simp⟩
  · rename_i r
    split
    · rename_i enabled
      obtain ⟨order, _, handed', pending, rest⟩ := foldl_postPending r [0, 1, 2, 3, 4, 5, 6, 7] u (by decide) handed
      generalize [0, 1, 2, 3, 4, 5, 6, 7].foldl (NoticeUnit.postPending r) u = t at *
      have enable : t.enable = u.enable := by rw [rest]
      have mask : t.mask = u.mask := by rw [rest]
      have counted := congrArg List.length order
      have bound := h.inOrder_add_room handed
      rw [List.length_append, List.length_map, List.length_take, inOrder_length t] at counted
      have in_hand : t.handed.toList.length = 0 ∧ t.queue.length = 0 ∨ t.handed.toList.length = 1 := by
        cases hand : t.handed with
        | none => simp [handed' hand]
        | some w => simp
      refine ⟨⟨?_, by omega⟩, handed', fun _ v pends unmasked => ?_⟩
      · rw [enable, enabled]
        nofun
      · have out : v ∈ u.goingOut [0, 1, 2, 3, 4, 5, 6, 7] := by
          rw [pending v] at pends
          rw [mask] at unmasked
          split at pends
          · simp at pends
          · exact mem_goingOut.2 ⟨vector_listed v, pends, unmasked⟩
        have short : u.room < (u.goingOut [0, 1, 2, 3, 4, 5, 6, 7]).length := by
          by_contra long
          rw [pending v, List.take_of_length_le (Nat.le_of_not_lt long), if_pos out] at pends
          simp at pends
        omega
    · rename_i disabled
      refine ⟨h, handed, fun _ v pends _ => ?_⟩
      rw [h.disabled (by simpa using disabled) v] at pends
      simp at pends

/-- The queue goes on lawfully, whether or not a write is in hand. -/
theorem NoticeUnit.Orderly.goOn {u : NoticeUnit} (h : u.Orderly) (o : Option Root) : (u.goOn o).Lawful o :=
  h.handOn.flush (handOn_handed u) o

theorem NoticeUnit.Orderly.ended {u : NoticeUnit} (h : u.Orderly) : u.ended.Orderly := ⟨h.disabled, h.room⟩

theorem NoticeUnit.Lawful.unrooted {o : Option Root} {u : NoticeUnit} (h : u.Lawful o) : u.Lawful none :=
  ⟨h.toOrderly, h.handed, by simp⟩

theorem NoticeUnit.Lawful.writeEnable {o : Option Root} {u : NoticeUnit} (h : u.Lawful o) (on : Bool) :
    (u.writeEnable on).Lawful o := by
  cases on
  · exact ⟨⟨fun _ v => by simp [NoticeUnit.writeEnable], h.room⟩, h.handed, by simp [NoticeUnit.writeEnable]⟩
  · exact ⟨⟨by simp [NoticeUnit.writeEnable], h.room⟩, h.handed, h.waits⟩

theorem NoticeUnit.Lawful.longDone {o : Option Root} {u : NoticeUnit} (h : u.Lawful o) (k : LongKind) : (u.longDone k).Lawful o := by
  refine ⟨⟨fun disabled v => ?_, by simpa using h.room⟩, fun none => ?_, fun rooted v pends unmasked => ?_⟩
  · have free := h.disabled disabled v
    rwa [← Option.not_isSome_iff_eq_none, longDone_pending_isSome, Option.not_isSome_iff_eq_none]
  · rw [longDone_handed_none] at none
    simp [NoticeUnit.longDone, h.handed none]
  · rw [longDone_pending_isSome] at pends
    simpa using h.waits rooted v pends unmasked

theorem NoticeUnit.lawful_afterReset (o : Option Root) : NoticeUnit.afterReset.Lawful o := by
  refine ⟨⟨fun _ v => ?_, by simp [NoticeUnit.afterReset]⟩, fun _ => rfl, fun _ v pends => ?_⟩
  · simp [NoticeUnit.afterReset]
  · simp [NoticeUnit.afterReset] at pends

/-! ### The laws under the operations of the other units -/

section
variable {s : State}

theorem NoticeInv.of_eq {t : State} (h : NoticeInv s) (notice : t.notice = s.notice) (root : t.root = s.root) : NoticeInv t := by
  rw [noticeInv_iff] at h ⊢
  rwa [notice, root]

theorem NoticeInv.of_same {ps : List Part} {t : State} (h : NoticeInv s) (same : SameOutside ps s t)
    (apart : [Part.notice, .root].any ps.contains = false) : NoticeInv t := by
  have speaks : SpeaksOf [.notice, .root] NoticeInv := fun u v kept hu =>
    hu.of_eq (kept .notice (by decide)) (kept .root (by decide))
  exact speaks.keeps same apart h

theorem NoticeInv.raise (h : NoticeInv s) (b : Raiser) (k : NoticeKind) : NoticeInv (raise b k s) := by
  rw [noticeInv_iff] at h ⊢
  exact h.raise _

theorem NoticeInv.progressOccasion (h : NoticeInv s) : NoticeInv (progressOccasion s) :=
  h.of_same (progressOccasion_same s) (by decide)

theorem NoticeInv.setFault (h : NoticeInv s) (b : Raiser) (f : FaultBit) : NoticeInv (setFault b f s) := by
  unfold Machine.setFault
  split
  · exact h
  · exact NoticeInv.raise (s := markFault f s) (h.of_eq rfl rfl) b .fault

theorem NoticeInv.haltReader (h : NoticeInv s) : NoticeInv (haltReader s) := by
  have faulted := h.setFault .reader .memory
  unfold Machine.haltReader
  extract_lets u
  split
  · exact faulted.of_same (readerOff_same _) (by decide)
  · exact faulted.of_eq rfl rfl

theorem NoticeInv.countFinished (h : NoticeInv s) (b : Raiser) (notify : Bool) : NoticeInv (countFinished b notify s) := by
  unfold Machine.countFinished
  extract_lets _ u
  have counted : NoticeInv u := h.of_eq rfl rfl
  split
  · exact counted.raise _ _
  · exact counted

end

theorem noticeInv_kept : KeptByEnds [.notice, .root] NoticeInv where
  speaks s t same hs := hs.of_eq (same .notice (by decide)) (same .root (by decide))
  apart := by decide
  ends d s hs := by
    cases d with
    | fade =>
      simp only [dueEffect, fadeEnds]
      refine (NoticeInv.raise ?_ _ _).progressOccasion
      exact hs.of_eq rfl rfl
    | silence p =>
      simp only [dueEffect, silenceEnds]
      refine NoticeInv.raise ?_ _ _
      exact hs.of_eq rfl rfl
    | meter => exact hs.of_same (meterExpiry_same s) (by decide)
    | _ => exact hs.of_eq rfl rfl
  stopping s hs := hs.of_same (finishStopping_same s) (by decide)

section
variable {s : State}

theorem NoticeInv.loadEnds (h : NoticeInv s) (answers : Bool) : NoticeInv (loadEnds answers s) := by
  have faulted : ∀ c b u, NoticeInv u → NoticeInv (faultIf c b u) := by
    intro c b u hu
    unfold faultIf
    split
    · exact hu.setFault _ _
    · exact hu
  unfold Machine.loadEnds
  split
  · exact faulted _ _ _ (faulted _ _ _ (h.of_same (install_same s _) (by decide)))
  · exact h

theorem NoticeInv.writeNoticeEnable (h : NoticeInv s) (on : Bool) : NoticeInv (writeNoticeEnable on s) := by
  unfold Machine.writeNoticeEnable
  split
  · exact h
  · exact noticeInv_iff.2 ((noticeInv_iff.1 h).writeEnable on)

theorem NoticeInv.writeVectorCount (h : NoticeInv s) (code : BitVec 2) : NoticeInv (writeVectorCount code s) := by
  unfold Machine.writeVectorCount
  split
  · exact h
  · exact ⟨h.disabled, h.room, h.handed, h.waits⟩

theorem NoticeInv.writeNoticeMask (h : NoticeInv s) (w : Word) : NoticeInv (writeNoticeMask w s) := by
  have orderly : NoticeUnit.Orderly { s.notice with mask := w.setWidth 8 } := ⟨h.disabled, h.room⟩
  exact noticeInv_iff.2 (orderly.flush h.handed s.root)

theorem noticeInv_resetAll (powerOn : Bool) (s : State) : NoticeInv (resetAll powerOn s) :=
  noticeInv_iff.2 (NoticeUnit.lawful_afterReset _)

theorem NoticeInv.writeControl (h : NoticeInv s) (w : Word) : NoticeInv (writeControl w s) := by
  unfold Machine.writeControl
  split
  · exact noticeInv_resetAll false s
  · extract_lets t u
    have enabled : NoticeInv t := (h.writeNoticeEnable _).writeVectorCount _
    have run : NoticeInv u := by
      simp only [u]
      split
      · exact enabled.of_same (writeRun1_same t) (by decide)
      · exact enabled.of_same (writeRun0_same t) (by decide)
    split
    · exact run.of_same (sweepNow_same u) (by decide)
    · exact run

theorem NoticeInv.writeRegister (h : NoticeInv s) (offset : Nat) (width : AccessWidth) (w : Word) :
    NoticeInv (writeRegister offset width w s) := by
  unfold Machine.writeRegister
  split
  · exact h
  split
  · exact h.writeControl w
  split
  · exact h.of_eq rfl rfl
  split
  · exact h.of_eq rfl rfl
  split
  · exact h.writeNoticeMask w
  split
  · exact h.of_eq rfl rfl
  · exact h

theorem NoticeInv.rootRead (h : NoticeInv s) (data : LinkRead 64) : NoticeInv (rootRead data s) := by
  unfold Machine.rootRead
  split
  · split
    · exact NoticeInv.setFault (s := (s.setRoot none).setEngine { s.engine with state := .stopped, run := false })
        (noticeInv_iff.2 (noticeInv_iff.1 h).unrooted) _ _
    · rename_i r _
      split
      · exact noticeInv_iff.2 ((noticeInv_iff.1 h).toOrderly.flush h.handed (some r))
      · exact h.of_eq rfl rfl
  · exact h

theorem NoticeInv.loseClock (h : NoticeInv s) : NoticeInv (loseClock s) := by
  unfold Machine.loseClock
  split
  · exact (NoticeInv.setFault (s := s.setMix (s.mix.lose (decide (s.engine.state = .loading)))) (h.of_eq rfl rfl) .mix .clock).of_same
      (finishStopping_same _) (by decide)
  · exact h

theorem NoticeInv.loseLane (h : NoticeInv s) (l : Fin 4) : NoticeInv (loseLane l s) :=
  NoticeInv.setFault (s := s.setMix (s.mix.unlockLane l)) (h.of_eq rfl rfl) .mix .lane

theorem NoticeInv.judgeLanes (h : NoticeInv s) (markers : BitVec 4) : NoticeInv (judgeLanes markers s) := by
  refine List.foldlRecOn _ _ h fun u hu l _ => ?_
  unfold judgeLane
  extract_lets t
  have locked : NoticeInv t := by
    simp only [t]
    split
    · exact hu.of_eq rfl rfl
    · exact hu
  split
  · split
    · exact locked
    · exact locked.loseLane l
  · exact locked.of_eq rfl rfl

theorem NoticeInv.samplePeriod (h : NoticeInv s) (lanes : Vector LaneWord 32) (markers : BitVec 4) :
    NoticeInv (samplePeriod lanes markers s) := by
  unfold Machine.samplePeriod
  split
  · extract_lets t
    have opened : NoticeInv t := by
      simp only [t]
      split
      · exact h.of_eq rfl rfl
      · exact h
    split
    · exact h
    · split
      · exact (opened.judgeLanes markers).of_same (computeSample_same _ _ _) (by decide)
      · exact h
  · exact h

theorem NoticeInv.blockEndStep (h : NoticeInv s) : NoticeInv (blockEndStep s) := by
  unfold Machine.blockEndStep
  split
  · rename_i b _
    have acted : ∀ u, NoticeInv u → NoticeInv (pickupsAct b u) := fun u hu =>
      List.foldlRecOn _ _ hu fun v hv i _ => by
        unfold pickupActs
        extract_lets m r t
        have set : NoticeInv t := hv.of_eq rfl rfl
        split
        · exact set.raise _ _
        · exact set
    have closed : ∀ u, NoticeInv u → NoticeInv (closeBlock b u) := by
      intro u hu
      unfold closeBlock
      extract_lets t
      have set : NoticeInv t := hu.of_eq rfl rfl
      split
      · exact set.raise _ _
      · exact set
    have ramps : NoticeInv (rampsAct s) := h.of_eq rfl rfl
    have fade : NoticeInv (fadeActs (rampsAct s)) := ramps.of_same (fadeActs_same _) (by decide)
    have meters := (acted _ fade).of_same (metersAct_same _ b) (by decide)
    exact closed _ (meters.of_same (holdoffActs_same _) (by decide))
  · exact h

theorem NoticeInv.pageWriteEnds (h : NoticeInv s) (ok : Bool) : NoticeInv (pageWriteEnds ok s) := by
  have ended : ∀ r hold u, NoticeInv u → NoticeInv (endSnapshot r hold u) := fun r hold u hu =>
    hu.of_same (endSnapshot_same u r hold) (by decide)
  unfold Machine.pageWriteEnds
  split
  · split
    · simp only []
      split
      · exact h.of_eq rfl rfl
      · refine ended _ _ _ (NoticeInv.raise ?_ _ _)
        exact h.of_eq rfl rfl
    · refine ended _ _ _ (NoticeInv.setFault ?_ _ _)
      exact h.of_eq rfl rfl
  · exact h
  · exact h

theorem NoticeInv.takeGo (h : NoticeInv s) (src : GoSource) : NoticeInv (takeGo src s).1 := by
  unfold Machine.takeGo
  split
  · rename_i items hd _
    split
    · simp only [executeScene, announceGo]
      have merged : NoticeInv (mergeWrites src items hd s) := h.of_eq rfl rfl
      have announced := (merged.raise .stager .cue).progressOccasion
      split
      · exact (announced.raise _ _).progressOccasion
      · exact announced
    · rename_i r d _
      simp only [refuseCapacity]
      have refused : NoticeInv (s.setStager (s.stager.refused src r d)) := h.of_eq rfl rfl
      refine NoticeInv.progressOccasion ?_
      split
      · exact refused.raise _ _
      · exact refused
  all_goals
    refine NoticeInv.progressOccasion ?_
    exact h.of_eq rfl rfl

theorem NoticeInv.slotReadEnds (h : NoticeInv s) (data : LinkRead 64) : NoticeInv (slotReadEnds data s) := by
  have bytes : ∀ r v, NoticeInv (slotBytes r v s) := by
    intro r v
    simp only [slotBytes]
    split
    · split
      · exact h.of_eq rfl rfl
      · split
        · exact h.of_eq rfl rfl
        · exact h.of_eq rfl rfl
    · exact h.of_eq rfl rfl
  unfold Machine.slotReadEnds
  split
  · split
    · exact bytes _ _
    · exact h.haltReader
    · exact h
  · exact h

theorem NoticeInv.cardWritten (h : NoticeInv s) (x : Hand) : NoticeInv (cardWritten x s) := by
  have passed : NoticeInv (if x.stale then (passSlot s).setReader { (passSlot s).reader with hand := none } else passCard x s) := by
    split
    · exact h.of_eq rfl rfl
    · exact h.of_eq rfl rfl
  unfold Machine.cardWritten
  extract_lets _ t _ u
  have taken : NoticeInv u := passed.of_eq rfl rfl
  exact (taken.countFinished .reader x.notify).of_same (afterCard_same _) (by decide)

theorem NoticeInv.cardWriteEnds (h : NoticeInv s) (ok : Bool) : NoticeInv (cardWriteEnds ok s) := by
  unfold Machine.cardWriteEnds
  split
  · exact h
  · rename_i x _
    have landed : ∀ t, NoticeInv (land t s) := fun _ => h.of_eq rfl rfl
    have fails : NoticeInv (writeFails x s) := by
      refine NoticeInv.haltReader ?_
      split
      · exact h
      · exact h.of_eq rfl rfl
    split
    · split
      · exact (landed _).of_same (dispatchCard_same _ x) (by decide)
      · exact fails
    · split
      · split
        · exact (landed _).cardWritten x
        · exact h.of_eq rfl rfl
      · exact fails
    all_goals exact h

theorem NoticeInv.longEnds (h : NoticeInv s) (k : LongKind) (failAt : Option Nat) : NoticeInv (longEnds k failAt s) := by
  have dropped : ∀ ts, NoticeInv (dropLong k (landAll ts s)) := by
    intro ts
    have landed : NoticeInv (landAll ts s) := h.of_same (landAll_same s ts) (by decide)
    exact noticeInv_iff.2 ((noticeInv_iff.1 landed).longDone k)
  have done : ∀ ts n, NoticeInv (Machine.progressOccasion (Machine.countFinished .linkPort n (dropLong k (landAll ts s)))) :=
    fun ts n => ((dropped ts).countFinished .linkPort n).progressOccasion
  unfold Machine.longEnds
  split
  · exact h
  · split
    · exact h
    · extract_lets ts
      split
      · split
        · exact (dropped _).setFault _ _
        · exact done _ _
      · exact done _ _

theorem NoticeInv.progressEnded (h : NoticeInv s) (ok : Bool) : NoticeInv (progressEnded ok s) := by
  unfold Machine.progressEnded
  split
  · exact h
  · extract_lets _ u v
    have landed : NoticeInv u := by
      cases ok
      · exact h.of_eq rfl rfl
      · exact h.of_eq rfl rfl
    have judged : NoticeInv v := by
      cases ok
      · exact landed.setFault _ _
      · exact landed
    split
    · exact judged.progressOccasion
    · exact judged

/-- A failed notice write leaves the unit orderly, whatever it raises. -/
theorem noticeFailed_orderly (w : NoticeWrite) (h : s.notice.Orderly) : (noticeFailed w s).notice.Orderly := by
  unfold noticeFailed
  split
  · exact h
  · unfold setFault
    split
    · exact h
    · exact h.raise _ _

theorem NoticeInv.noticeEnded (h : NoticeInv s) (ok : Bool) : NoticeInv (noticeEnded ok s) := by
  unfold Machine.noticeEnded
  split
  · exact h
  · rename_i w _
    split
    · exact h
    · extract_lets t u
      have ended : t.notice.Orderly := (noticeInv_iff.1 h).toOrderly.ended
      have orderly : u.notice.Orderly := by
        cases ok
        · exact noticeFailed_orderly w ended
        · exact ended
      exact noticeInv_iff.2 (orderly.goOn u.root)

end

/-- Every act keeps the notice unit consistent. -/
theorem noticeInv_act (c : Instr) (concerned : concerns [.notice, .root] c = true) (s : State) (h : NoticeInv s) :
    NoticeInv (act c s) := by
  cases c with
  | powerOnReset | linkReset | engineReset => exact noticeInv_resetAll _ s
  | storeLoadEnd answers => exact h.loadEnds answers
  | noticeEnable on => exact h.writeNoticeEnable on
  | vectorCount code => exact h.writeVectorCount code
  | noticeMaskWrite w => exact h.writeNoticeMask w
  | registerWrite offset width w => exact h.writeRegister offset width w
  | rootReadEnd data => exact h.rootRead data
  | clockLoss => exact h.loseClock
  | laneLoss l =>
    simp only [act]
    split
    · exact h.loseLane l
    · exact h
  | blockEnd => exact h.blockEndStep
  | meterPageWriteEnd ok => exact h.pageWriteEnds ok
  | lineGo =>
    simp only [act]
    split
    · refine NoticeInv.takeGo (s := s.setStager { s.stager with lineGos := s.stager.lineGos - 1 }) ?_ .line
      exact h.of_eq rfl rfl
    · exact h
  | go => exact onCard_keeps h fun x items _ => (h.takeGo .card).of_eq rfl rfl
  | slotRead data => exact h.slotReadEnds data
  | cardWriteEnd ok => exact h.cardWriteEnds ok
  | longCardCompletion k failAt => exact h.longEnds k failAt
  | progressWriteEnd ok => exact h.progressEnded ok
  | noticeWriteEnd ok => exact h.noticeEnded ok
  | sampleComputation lanes markers => exact h.samplePeriod lanes markers
  | _ => exact absurd concerned Bool.false_ne_true

/-- Settles O10: every act keeps the laws of the notice unit, and so do settling and the ends of a block end. -/
theorem noticeUnitStaysConsistent : Obligations.NoticeUnitStaysConsistent := fun _ _ hs h =>
  step_keeps_law noticeInv_kept noticeInv_act hs h

end Sys2Proof.Machine
end

section
/-! The pickup records under the operations that write them: the block end, the cards, the load and the resets; and from it the range of
every trim (R129), mute gain (R80), silence group (R119) and ceiling (R3). -/

namespace Sys2Proof.Machine

/-! ### The pickups at a block end -/

/-- What the block end of one pickup makes of its record as it stands, and what it brings it to (R121). -/
def Supervisor.pickupEnds (u : Supervisor) (b : Block) (i : Fin 32) : Pickup × PickupOutcome :=
  u.pickups[i].blockEnd (b.pickups[i].closed.peak, b.pickups[i].closed.energy)

/-- A kind raised by a unit that has no write of its own in flight (R181). -/
def plainRaising (k : NoticeKind) : Raising := { kind := k, after := none, longs := [] }

theorem pickupActs_sup_eq (b : Block) (s : State) (i : Fin 32) :
    (pickupActs b s i).sup = s.sup.setPickup i (s.sup.pickupEnds b i).1 := pickupActs_sup b s i

theorem pickupActs_due (b : Block) (s : State) (i : Fin 32) :
    (pickupActs b s i).due = s.due ++ ((s.sup.pickupEnds b i).2.due i).toList := by
  simp only [pickupActs]
  split <;> rfl

theorem pickupActs_notice (b : Block) (s : State) (i : Fin 32) : (pickupActs b s i).notice =
    ((s.sup.pickupEnds b i).2.notice.toList).foldl (fun u k => u.raise s.root (plainRaising k)) s.notice := by
  simp only [pickupActs]
  split
  · rename_i k raises
    simp only [Supervisor.pickupEnds, raises]
    rfl
  · rename_i raises
    simp only [Supervisor.pickupEnds, raises]
    rfl

/-- The block ends of different pickups do not meddle: each acts on its own record as the block found it (R121). -/
theorem foldl_pickupActs (b : Block) : ∀ (is : List (Fin 32)) (s : State), is.Nodup →
    (∀ p : Fin 32, (is.foldl (pickupActs b) s).sup.pickups[p] =
        if p ∈ is then (s.sup.pickupEnds b p).1 else s.sup.pickups[p])
      ∧ (is.foldl (pickupActs b) s).due = s.due ++ is.filterMap (fun i => (s.sup.pickupEnds b i).2.due i)
      ∧ (is.foldl (pickupActs b) s).notice = (is.filterMap fun i => (s.sup.pickupEnds b i).2.notice).foldl
          (fun u k => u.raise s.root (plainRaising k)) s.notice := by
  intro is
  induction is with
  | nil => intro s _; simp
  | cons i is ih =>
    intro s nodup
    obtain ⟨fresh, nodup⟩ := List.nodup_cons.1 nodup
    obtain ⟨pickups, due, notice⟩ := ih (pickupActs b s i) nodup
    have root : (pickupActs b s i).root = s.root := pickupActs_same s b i .root (by decide)
    have others : ∀ j ∈ is, (pickupActs b s i).sup.pickupEnds b j = s.sup.pickupEnds b j := by
      intro j listed
      have other : i ≠ j := fun same => fresh (same ▸ listed)
      rw [Supervisor.pickupEnds, pickupActs_sup_eq, Supervisor.setPickup_getElem, if_neg other]
      rfl
    have later_due : is.filterMap (fun j => ((pickupActs b s i).sup.pickupEnds b j).2.due j)
        = is.filterMap (fun j => (s.sup.pickupEnds b j).2.due j) :=
      List.filterMap_congr fun j listed => by rw [others j listed]
    have later_notice : is.filterMap (fun j => ((pickupActs b s i).sup.pickupEnds b j).2.notice)
        = is.filterMap (fun j => (s.sup.pickupEnds b j).2.notice) :=
      List.filterMap_congr fun j listed => by rw [others j listed]
    refine ⟨fun p => ?_, ?_, ?_⟩
    · rw [List.foldl_cons, pickups p]
      by_cases listed : p ∈ is
      · rw [if_pos listed, others p listed, if_pos (List.mem_cons_of_mem _ listed)]
      · rw [if_neg listed, pickupActs_sup_eq, Supervisor.setPickup_getElem]
        by_cases here : i = p
        · subst here
          rw [if_pos rfl, if_pos List.mem_cons_self]
        · rw [if_neg here, if_neg]
          rw [List.mem_cons, not_or]
          exact ⟨Ne.symm here, listed⟩
    · rw [List.foldl_cons, due, pickupActs_due, later_due, List.append_assoc]
      cases h : (s.sup.pickupEnds b i).2.due i <;> simp [h]
    · rw [List.foldl_cons, notice, pickupActs_notice, later_notice, root, ← List.foldl_append]
      cases h : (s.sup.pickupEnds b i).2.notice <;> simp [h]

theorem pickupsAct_pickups (b : Block) (s : State) (p : Fin 32) :
    (pickupsAct b s).sup.pickups[p] = (s.sup.pickupEnds b p).1 := by
  rw [pickupsAct, (foldl_pickupActs b _ s (List.nodup_finRange 32)).1 p, if_pos (List.mem_finRange p)]

theorem pickupsAct_due (b : Block) (s : State) :
    (pickupsAct b s).due = s.due ++ (List.finRange 32).filterMap fun i => (s.sup.pickupEnds b i).2.due i :=
  (foldl_pickupActs b _ s (List.nodup_finRange 32)).2.1

theorem pickupsAct_notice (b : Block) (s : State) : (pickupsAct b s).notice =
    ((List.finRange 32).filterMap fun i => (s.sup.pickupEnds b i).2.notice).foldl
      (fun u k => u.raise s.root (plainRaising k)) s.notice :=
  (foldl_pickupActs b _ s (List.nodup_finRange 32)).2.2

theorem pickupsAct_emitters (b : Block) (s : State) : (pickupsAct b s).sup.emitterGain = s.sup.emitterGain
    ∧ (pickupsAct b s).sup.emitterFlag = s.sup.emitterFlag := by
  unfold pickupsAct
  induction List.finRange 32 using List.reverseRecOn with
  | nil => exact ⟨rfl, rfl⟩
  | append_singleton is i ih =>
    rw [List.foldl_append, List.foldl_cons, List.foldl_nil, pickupActs_sup_eq]
    exact ih

/-- The supervisor after a block end: the pickups that the mute gains have moved, each acting on its own measures (R80, R121). -/
theorem blockEnd_sup (b : Block) (s : State) : (blockEnd b s).sup = (pickupsAct b (fadeActs (rampsAct s))).sup := by
  have closed : (blockEnd b s).sup = (holdoffActs (metersAct b (pickupsAct b (fadeActs (rampsAct s))))).sup :=
    closeBlock_same _ b .sup (by decide)
  exact closed.trans (Eq.trans (holdoffActs_same _ .sup (by decide)) (metersAct_same _ b .sup (by decide)))

theorem fadeActs_rampsAct_sup (s : State) :
    (fadeActs (rampsAct s)).sup = s.sup.moveGains (decide (s.engine.state = .running)) :=
  fadeActs_same (rampsAct s) .sup (by decide)

theorem blockEnd_pickups (b : Block) (s : State) (p : Fin 32) : (blockEnd b s).sup.pickups[p] =
    ((s.sup.moveGains (decide (s.engine.state = .running))).pickupEnds b p).1 := by
  rw [blockEnd_sup, pickupsAct_pickups, fadeActs_rampsAct_sup]

theorem blockEnd_emitterGain (b : Block) (s : State) : (blockEnd b s).sup.emitterGain =
    (s.sup.moveGains (decide (s.engine.state = .running))).emitterGain := by
  rw [blockEnd_sup, (pickupsAct_emitters _ _).1, fadeActs_rampsAct_sup]

/-! ### The load -/

/-- A good image: what its bytes meet and the image they hold (R189). -/
theorem imageOfBytes_eq_some {b : List Byte} {i : Image} (h : imageOfBytes b = some i) : ∃ st,
    imageState (field b 4 1) = some st ∧ field b 677 4 = crc32 (b.take 677)
      ∧ (vectorField b 229 8 8 patchInRange).toList.all id = true
      ∧ (vectorField b 293 12 32 RingGroup.ofBytes).toList.all RingGroup.inRange = true
      ∧ i = { seq := field b 0 4, state := st, code := Vector.ofFn fun j : Fin 32 => b.getD (5 + j.val) 0
              ceilings := vectorField b 37 2 96 leNat, slots := vectorField b 229 8 8 patchOfBytes
              rings := vectorField b 293 12 32 RingGroup.ofBytes } := by
  unfold imageOfBytes at h
  split at h
  · cases h
  · rename_i st state
    extract_lets rings at h
    split at h
    · rename_i good
      obtain ⟨crc, slots, ranges⟩ := good
      exact ⟨st, state, crc, slots, ranges, (Option.some.inj h).symm⟩
    · cases h

/-- The values that the load under way installs: those of the image in flash, or the defaults (R192). -/
def loadedFrom (answers : Bool) (s : State) : Loaded :=
  ((imageOfBytes (flashRead answers s)).map Image.loaded).getD .defaults

/-- The end of a load installs them, and sets bits of FAULT at most beside. -/
theorem loadEnds_installs (answers : Bool) {s : State} (h : s.engine.state = .loading) :
    SameOutside [.regs, .notice] (install (loadedFrom answers s) s) (loadEnds answers s) := by
  have faulted : ∀ c b u, SameOutside [.regs, .notice] u (faultIf c b u) := by
    intro c b u
    unfold faultIf
    split
    · exact setFault_same _ _ _
    · exact SameOutside.refl _ _
  simp only [loadEnds, if_pos h, loadImage]
  exact SameOutside.trans (faulted _ _ _) (faulted _ _ _)

/-- The values installed lie in their ranges (R3, R119, R192). -/
theorem loadedFrom_ranges (answers : Bool) (s : State) :
    (∀ p : Fin 32, (loadedFrom answers s).rings[p].inRange = true) ∧ ∀ e : Fin 96, (loadedFrom answers s).ceilings[e] ≤ 65535 := by
  unfold loadedFrom
  cases h : imageOfBytes (flashRead answers s) with
  | none =>
    refine ⟨fun p => ?_, fun e => ?_⟩
    · simp [Loaded.defaults]
      decide
    · simp [Loaded.defaults]
  | some i =>
    obtain ⟨st, _, _, _, ranges, rfl⟩ := imageOfBytes_eq_some h
    refine ⟨fun p => ?_, fun e => ?_⟩
    · exact List.all_eq_true.1 ranges _ (Vector.mem_toList_iff.2 (Vector.getElem_mem p.isLt))
    · have below : leNat (((flashRead answers s).drop (37 + 2 * e.val)).take 2) < 65536 := field_lt (flashRead answers s) (37 + 2 * e.val) 2
      simpa [Image.loaded, vectorField] using Nat.le_of_lt_succ below

/-! ### Laws of every pickup record -/

/-- Every pickup record meets a law. -/
def Supervisor.Fits (Q : Pickup → Prop) (u : Supervisor) : Prop := ∀ p : Fin 32, Q u.pickups[p]

theorem Supervisor.Fits.of_pickups {Q : Pickup → Prop} {u v : Supervisor} (h : u.Fits Q) (same : v.pickups = u.pickups) : v.Fits Q := by
  intro p
  have here := h p
  rwa [← same] at here

theorem Supervisor.Fits.setPickup {Q : Pickup → Prop} {u : Supervisor} (h : u.Fits Q) (i : Fin 32) {q : Pickup} (hq : Q q) :
    (u.setPickup i q).Fits Q := by
  intro p
  rw [Supervisor.setPickup_getElem]
  split
  · exact hq
  · exact h p

/-- A law of one pickup record that every operation on pickup records keeps, a ring group's installation by a load apart. -/
structure PickupLaw (Q : Pickup → Prop) : Prop where
  moves : ∀ p, Q p → Q { p with muteGain := moveGain (pickupAim p.muteFlag) p.muteGain }
  ends : ∀ m p, Q p → Q (p.blockEnd m).1
  silences : ∀ p, Q p → Q p.goSilent
  holds : ∀ p, Q p → Q p.endHold
  resets : ∀ p, Q p → Q (Pickup.afterReset p.ring)
  written : ∀ i p on, Q p → Q ((p.setSettings (PickupItem.clampAll i)).setEnable on)
  flagged : ∀ p flag, Q p → Q { p with muteFlag := flag }

namespace PickupLaw
variable {Q : Pickup → Prop} {s : State}

theorem resetAll (law : PickupLaw Q) (h : s.sup.Fits Q) (powerOn : Bool) : (resetAll powerOn s).sup.Fits Q := by
  intro p
  have landed : (landHanded (landProgress s)).sup = s.sup :=
    Eq.trans (landHanded_same (landProgress s) .sup (by decide)) (landProgress_same s .sup (by decide))
  have reset : (Machine.resetAll powerOn s).sup.pickups[p] = Pickup.afterReset s.sup.pickups[p].ring := by
    simp [Machine.resetAll, resetUnits, landed, Supervisor.afterReset]
  rw [reset]
  exact law.resets _ (h p)

end PickupLaw

/-- A stop writes no pickup record. -/
theorem writeRun0_pickups (s : State) : (writeRun0 s).sup.pickups = s.sup.pickups := by
  have stopped : (enterStopping s).sup.pickups = s.sup.pickups := by
    have finish : ∀ u : State, (finishStopping u).sup = u.sup := fun u => finishStopping_same u .sup (by decide)
    have stop : ∀ u : State, (stopReader u).sup = u.sup := fun u => stopReader_same u .sup (by decide)
    unfold enterStopping
    extract_lets _ t
    have kept : t.sup = s.sup := stop _
    rw [finish]
    split
    · rw [kept]
    · exact Eq.trans (b := t.sup.pickups) rfl (congrArg Supervisor.pickups kept)
  unfold writeRun0
  split
  · rfl
  · exact stopped
  all_goals rfl

/-- A write of a register leaves the pickup records, or resets everything. -/
theorem writeRegister_pickups (offset : Nat) (width : AccessWidth) (w : Word) (s : State) :
    writeRegister offset width w s = resetAll false s ∨ (writeRegister offset width w s).sup.pickups = s.sup.pickups := by
  have control : writeControl w s = Machine.resetAll false s ∨ (writeControl w s).sup.pickups = s.sup.pickups := by
    unfold writeControl
    split
    · exact .inl rfl
    · refine .inr ?_
      extract_lets t u
      have enabled : t.sup = s.sup :=
        Eq.trans (writeVectorCount_same _ _ .sup (by decide)) (writeNoticeEnable_same _ _ .sup (by decide))
      have run : u.sup.pickups = s.sup.pickups := by
        simp only [u]
        split
        · exact congrArg Supervisor.pickups (Eq.trans (writeRun1_same t .sup (by decide)) enabled)
        · rw [writeRun0_pickups, enabled]
      split
      · exact Eq.trans (congrArg Supervisor.pickups (sweepNow_same u .sup (by decide))) run
      · exact run
  unfold writeRegister
  split
  · exact .inr rfl
  split
  · exact control
  split
  · exact .inr rfl
  split
  · exact .inr rfl
  split
  · exact .inr rfl
  split
  · exact .inr rfl
  · exact .inr rfl

theorem pickupItem_keeps {Q : Pickup → Prop} (law : PickupLaw Q) {prot : ProtState} {x y : Vector Pickup 32 × Nat} {i : PickupItem}
    (h : ∀ p : Fin 32, Q x.1[p]) (ok : pickupItem prot x i = .ok y) (p : Fin 32) : Q y.1[p] := by
  unfold pickupItem at ok
  split at ok
  · rename_i listed
    split at ok
    · cases ok
    · extract_lets c at ok
      split at ok
      · cases ok
      · cases ok
        by_cases here : i.pickup = p.val
        · have written := law.written i _ (i.enable == 1) (h ⟨i.pickup, listed⟩)
          simpa [here, c] using written
        · simpa [here] using h p
  · cases ok

theorem installFlags_pickups (emitters : Bool) (fs : List Bool) (s : State) (p : Fin 32) :
    ∃ flag, (installFlags emitters fs s).sup.pickups[p] = { s.sup.pickups[p] with muteFlag := flag } := by
  cases emitters
  · exact ⟨fs.getD p.val false, by simp [installFlags]⟩
  · exact ⟨s.sup.pickups[p].muteFlag, rfl⟩

/-- A law of pickup records is a law that the ends of a block end keep. -/
theorem PickupLaw.kept {Q : Pickup → Prop} (law : PickupLaw Q) : KeptByEnds [.sup] fun s => s.sup.Fits Q where
  speaks s t same hs := by
    have sup : t.sup = s.sup := same .sup (by decide)
    exact hs.of_pickups (by rw [sup])
  apart := by decide
  ends d s hs := by
    have others : ∀ t, SameOutside d.touches s t → .sup ∉ d.touches → t.sup.Fits Q := by
      intro t same apart
      have sup : t.sup = s.sup := same .sup apart
      rwa [sup]
    cases d with
    | silence i => exact hs.setPickup i (law.silences _ (hs i))
    | ringHold i => exact hs.setPickup i (law.holds _ (hs i))
    | ramp | removal | dipLow | dipUp | fade | meter | holdoff => exact others _ (dueEffect_touches s _) (by simp [Due.touches])
  stopping s hs := by
    have sup : (finishStopping s).sup = s.sup := finishStopping_same s .sup (by decide)
    exact hs.of_pickups (by rw [sup])

/-- The acts that write the supervisor keep a law of pickup records, where a load's ring groups fit the records it finds. -/
theorem PickupLaw.act {Q : Pickup → Prop} (law : PickupLaw Q) {s : State} (h : s.sup.Fits Q)
    (installs : s.engine.state = .loading → ∀ (p : Fin 32) (ring : RingGroup), ring.inRange = true →
      Q { s.sup.pickups[p] with ring := ring }) {c : Instr} (concerned : concerns [.sup] c = true) : (act c s).sup.Fits Q := by
  cases c with
  | powerOnReset | linkReset | engineReset => exact law.resetAll h _
  | storeLoadEnd answers =>
    by_cases loading : s.engine.state = .loading
    · have sup : (loadEnds answers s).sup = (install (loadedFrom answers s) s).sup := loadEnds_installs answers loading .sup (by decide)
      have installed : (install (loadedFrom answers s) s).sup.Fits Q := by
        intro p
        simpa [install] using installs loading p _ ((loadedFrom_ranges answers s).1 p)
      exact installed.of_pickups (congrArg Supervisor.pickups sup)
    · simpa only [Machine.act, loadEnds, if_neg loading] using h
  | runStop => exact h.of_pickups (writeRun0_pickups s)
  | registerWrite offset width w =>
    simp only [Machine.act]
    rcases writeRegister_pickups offset width w s with reset | pickups
    · rw [reset]
      exact law.resetAll h _
    · exact h.of_pickups pickups
  | clockReturn =>
    simp only [Machine.act, returnClock]
    split <;> exact h
  | blockEnd =>
    simp only [Machine.act, blockEndStep]
    split
    · intro p
      rw [blockEnd_pickups]
      refine law.ends _ _ ?_
      simpa [Supervisor.moveGains] using law.moves _ (h p)
    · exact h
  | pickups =>
    refine onCard_keeps (P := fun t => t.sup.Fits Q) h fun x items _ => ?_
    exact applyItems_keeps (P := fun y : Vector Pickup 32 × Nat => ∀ p : Fin 32, Q y.1[p])
      (fun _ _ _ hy ok => pickupItem_keeps law hy ok) _ 0 (s.sup.pickups, 0) h
  | mutes failAt =>
    refine onCard_keeps (P := fun t => t.sup.Fits Q) h fun x items _ => ?_
    have installed : ∀ e fs ts, (installFlags e fs (landAll ts s)).sup.Fits Q := by
      intro e fs ts p
      obtain ⟨flag, written⟩ := installFlags_pickups e fs (landAll ts s) p
      rw [written]
      have landed : (landAll ts s).sup.Fits Q := h.of_pickups (by rw [landAll_sup])
      exact law.flagged _ flag (landed p)
    unfold mutesCard
    split
    · exact h
    · split
      · exact h
      · exact installed _ _ _
  | _ => exact absurd concerned Bool.false_ne_true

end Sys2Proof.Machine
end

section
/-! The range of every trim (R129), mute gain (R80), silence group (R119) and ceiling (R3). -/

namespace Sys2Proof.Machine

/-! ### LOADING: no card, and every trim at 256 -/

/-- The reader is OFF with no card in hand. -/
def Reader.idle (r : Reader) : Prop := r.state = .off ∧ r.hand = none

theorem reader_idle_of_stance {s t : State} (h : s.reader.idle) (stance : t.stance = s.stance) : t.reader.idle := by
  obtain ⟨_, rest⟩ := Prod.mk.inj stance
  obtain ⟨state, hand⟩ := Prod.mk.inj rest
  exact ⟨state.trans h.1, hand.trans h.2⟩

/-- With no card in hand no unit acts on one. -/
theorem onCard_of_no_card {k : CardKind} {f : Hand → List Byte → State → State} {s : State} (h : s.reader.hand = none) :
    onCard k f s = s := by
  unfold onCard
  split
  · rename_i x items acting
    exact absurd (actingOn_eq_some acting).1 (by simp [h])
  · rfl

/-- In LOADING a write of a register resets, or leaves the reader (R85, R161). -/
theorem writeRegister_reader {s : State} (loading : s.engine.state = .loading) (off : s.reader.state = .off) (offset : Nat)
    (width : AccessWidth) (w : Word) :
    writeRegister offset width w s = resetAll false s ∨ (writeRegister offset width w s).reader = s.reader := by
  have control : writeControl w s = resetAll false s ∨ (writeControl w s).reader = s.reader := by
    unfold writeControl
    split
    · exact .inl rfl
    · refine .inr ?_
      have stands : writeVectorCount (w.extractLsb' 4 2) (writeNoticeEnable (w.getLsbD 2) s) = s := by
        simp only [writeVectorCount, writeNoticeEnable, loading, if_true]
      simp only [stands, writeRun1, writeRun0, loading, ite_self, sweepNow, off]
  unfold writeRegister
  split
  · exact .inr rfl
  split
  · exact control
  split
  · exact .inr rfl
  split
  · exact .inr rfl
  split
  · exact .inr rfl
  split
  · exact .inr rfl
  · exact .inr rfl

/-- In LOADING no act takes the reader out of OFF or a card in hand (R85, R165). -/
theorem reader_idle_act {s : State} (loading : s.engine.state = .loading) (h : s.reader.idle) {c : Instr}
    (concerned : concerns [.engine, .reader] c = true) : (act c s).reader.idle := by
  obtain ⟨off, no_card⟩ := h
  have same : ∀ {t : State}, t.reader = s.reader → t.reader.idle := fun reader => by
    rw [reader]
    exact ⟨off, no_card⟩
  cases c with
  | powerOnReset | linkReset | engineReset => exact ⟨rfl, rfl⟩
  | storeLoadEnd answers => exact same (loadEnds_same s answers .reader (by decide))
  | runStart => exact same (writeRun1_same s .reader (by decide))
  | runStop => simpa only [act, writeRun0, loading] using ⟨off, no_card⟩
  | registerWrite offset width w =>
    rcases writeRegister_reader loading off offset width w with reset | reader
    · rw [act, reset]
      exact ⟨rfl, rfl⟩
    · exact same reader
  | rootReadEnd data =>
    simp only [act, rootRead, loading, reduceCtorEq, if_false]
    exact ⟨off, no_card⟩
  | stoppingEnd => exact same (finishStopping_same s .reader (by decide))
  | clockLoss => exact same (loseClock_same s .reader (by decide))
  | meterPageWriteEnd ok => exact reader_idle_of_stance ⟨off, no_card⟩ (pageWriteEnds_stance ok s)
  | sweepNow => simpa only [act, sweepNow, off] using ⟨off, no_card⟩
  | sweepTimerExpiry =>
    simp only [act, off, reduceCtorEq, if_false]
    exact ⟨off, no_card⟩
  | slotRead data => simpa [act, slotReadEnds, slotReadInFlight, off] using ⟨off, no_card⟩
  | itemListRead data => simpa only [act, itemListEnds, no_card] using ⟨off, no_card⟩
  | cardWriteEnd ok => simpa only [act, cardWriteEnds, no_card] using ⟨off, no_card⟩
  | sweepEnd => simpa [act, sweepDone, off] using ⟨off, no_card⟩
  | stage | standby | dropStandby | go | ceilings | tails | patches | pickups | mutes | snapshot | cueLine | setCode | unlock | relock
  | clearCode | fix | store | report =>
    simp only [act, protectAct, onCard_of_no_card no_card]
    exact ⟨off, no_card⟩
  | fuseBlowEnd blown => simpa only [act, blowEnds, no_card] using ⟨off, no_card⟩
  | storeEraseEnd => exact reader_idle_of_stance ⟨off, no_card⟩ (eraseEnds_stance s)
  | storeVerifyEnd answers => exact reader_idle_of_stance ⟨off, no_card⟩ (verifyEnds_stance answers s)
  | reportTransferEnd ok => simpa only [act, reportTransferEnds, no_card] using ⟨off, no_card⟩
  | longCardCompletion k failAt => exact reader_idle_of_stance ⟨off, no_card⟩ (longEnds_stance k failAt s)
  | _ => exact absurd concerned Bool.false_ne_true

/-- A block end does nothing in LOADING (R90). -/
theorem blockEndStep_of_loading {s : State} (loading : s.engine.state = .loading) : blockEndStep s = s := by
  have none : s.fullBlock = none := by
    unfold State.fullBlock
    split
    · simp [State.processes, loading]
    · rfl
  simp only [blockEndStep, none]

/-- In LOADING no act moves a trim (R119, R192). -/
theorem trims_act {s : State} (loading : s.engine.state = .loading) (no_card : s.reader.hand = none)
    (h : s.sup.Fits fun p => p.trim = 256) {c : Instr} (concerned : concerns [.sup] c = true) :
    (act c s).sup.Fits fun p => p.trim = 256 := by
  have reset : ∀ powerOn, (resetAll powerOn s).sup.Fits fun p => p.trim = 256 := by
    intro powerOn p
    simp [resetAll, resetUnits, Supervisor.afterReset, Pickup.afterReset]
  cases c with
  | powerOnReset | linkReset | engineReset => exact reset _
  | storeLoadEnd answers =>
    have sup : (loadEnds answers s).sup = (install (loadedFrom answers s) s).sup := loadEnds_installs answers loading .sup (by decide)
    have installed : (install (loadedFrom answers s) s).sup.Fits fun p => p.trim = 256 := fun p => by simpa [install] using h p
    exact installed.of_pickups (congrArg Supervisor.pickups sup)
  | runStop => exact h.of_pickups (writeRun0_pickups s)
  | registerWrite offset width w =>
    rcases writeRegister_pickups offset width w s with done | pickups
    · rw [act, done]
      exact reset _
    · exact h.of_pickups pickups
  | clockReturn =>
    simp only [act, returnClock]
    split <;> exact h
  | blockEnd => simpa only [act, blockEndStep_of_loading loading] using h
  | pickups | mutes =>
    simp only [act, onCard_of_no_card no_card]
    exact h
  | _ => exact absurd concerned Bool.false_ne_true

theorem EngineMoves.loading {s t : State} (h : EngineMoves s t) (loading : t.engine.state = .loading) : s.engine.state = .loading := by
  rcases h with same | moved
  · rw [← same, loading]
  · rw [loading] at moved
    cases before : s.engine.state <;> simp [before, engineMoves] at moved

/-- Only a reset takes the engine into LOADING (R84). -/
theorem loading_by_reset {c : Instr} {s : State} (concerned : concerns [.engine, .reader, .sup] c = true)
    (loading : (act c s).engine.state = .loading) : s.engine.state = .loading ∨ ∃ powerOn, act c s = resetAll powerOn s := by
  have moved (h : EngineMoves s (act c s)) : s.engine.state = .loading ∨ ∃ powerOn, act c s = resetAll powerOn s :=
    .inl (h.loading loading)
  have stands (apart : Part.engine ∉ touches c) := moved (.of_engine (act_touches c s .engine apart))
  cases c with
  | powerOnReset | linkReset | engineReset => exact .inr ⟨_, rfl⟩
  | storeLoadEnd answers =>
    refine .inl ?_
    by_contra awake
    exact awake (by simpa only [act, loadEnds, if_neg awake] using loading)
  | runStart => exact moved (engineMoves_writeRun1 s)
  | runStop => exact moved (engineMoves_writeRun0 s)
  | rootReadEnd data => exact moved (engineMoves_rootRead s data)
  | stoppingEnd => exact moved (engineMoves_finishStopping s)
  | clockLoss => exact moved (engineMoves_loseClock s)
  | registerWrite offset width w =>
    by_cases reset : width = .word ∧ offset = 4 ∧ w.getLsbD 1 = true
    · obtain ⟨rfl, rfl, bit⟩ := reset
      exact .inr ⟨false, by simp [act, writeRegister, writeControl, bit]⟩
    · exact moved (engineMoves_writeRegister reset)
  | _ => exact stands (by simp [touches])

/-! ### The trims -/

/-- The law of one trim: its pickup's ring group in range, and the trim between the trim floor and 256 (R119, R129). -/
structure TrimFits (p : Pickup) : Prop where
  ring : p.ring.inRange = true
  above : p.ring.trimFloor ≤ p.trim
  below : p.trim ≤ 256

theorem trimFloor_le_of_inRange {r : RingGroup} (h : r.inRange = true) : r.trimFloor ≤ 256 := by
  simp only [RingGroup.inRange, Bool.and_eq_true, decide_eq_true_eq] at h
  obtain ⟨⟨⟨_, floor⟩, _⟩, _⟩ := h
  exact floor

theorem clampTo_range {lo hi n : Nat} (ordered : lo ≤ hi) : lo ≤ clampTo lo hi n ∧ clampTo lo hi n ≤ hi :=
  ⟨Nat.le_max_left _ _, Nat.max_le.2 ⟨ordered, Nat.min_le_left _ _⟩⟩

/-- Clamped settings lie in their ranges (R131). -/
theorem clampAll_inRange (r : RingGroup) : r.clampAll.inRange = true := by
  simp [RingGroup.clampAll, RingGroup.inRange, clampTo_range]

theorem TrimFits.of_ring {p q : Pickup} (h : TrimFits p) (ring : q.ring = p.ring) (above : p.ring.trimFloor ≤ q.trim)
    (below : q.trim ≤ 256) : TrimFits q :=
  ⟨by rw [ring]; exact h.ring, by rw [ring]; exact above, below⟩

/-- A record with the ring group and trim of one that fits. -/
theorem TrimFits.of_trim {p q : Pickup} (h : TrimFits p) (ring : q.ring = p.ring) (trim : q.trim = p.trim) : TrimFits q :=
  h.of_ring ring (by rw [trim]; exact h.above) (by rw [trim]; exact h.below)

theorem TrimFits.monitor {p : Pickup} (h : TrimFits p) (bit : Bool) : TrimFits (p.monitor bit).1 := by
  have cut : p.trim * p.ring.cut / 256 ≤ 256 := by
    have ring := h.ring
    simp only [RingGroup.inRange, Bool.and_eq_true, decide_eq_true_eq] at ring
    obtain ⟨⟨⟨⟨_, bound⟩, _⟩, _⟩, _⟩ := ring
    have product := Nat.mul_le_mul h.below bound
    omega
  have floor := trimFloor_le_of_inRange h.ring
  have above := h.above
  unfold Pickup.monitor
  extract_lets hist q
  split
  · exact h.of_ring rfl (Nat.le_max_left _ _) (Nat.max_le.2 ⟨floor, cut⟩)
  · split
    · refine h.of_ring rfl (Nat.le_min.2 ⟨floor, ?_⟩) (Nat.min_le_left _ _)
      exact Nat.le_add_right_of_le above
    · split
      · exact h.of_trim rfl rfl
      · exact h.of_trim rfl rfl

theorem TrimFits.blockEnd {p : Pickup} (h : TrimFits p) (m : Nat × Nat) : TrimFits (p.blockEnd m).1 := by
  have watched : ∀ q : Pickup, TrimFits q →
      TrimFits (if m.1 < p.floor ∧ p.limit ≤ q.silence then (q, PickupOutcome.silenceDue) else q.monitor (p.riseBit m.2)).1 := by
    intro q hq
    split
    · exact hq
    · exact hq.monitor _
  unfold Pickup.blockEnd
  split
  · exact h
  · simp only [Pickup.presenceTest]
    split
    · exact h.of_ring rfl (Nat.le_refl _) (trimFloor_le_of_inRange h.ring)
    · exact h.of_trim rfl rfl
  · exact watched _ (h.of_trim rfl rfl)
  · exact watched _ (h.of_trim rfl rfl)

theorem TrimFits.setEnable {p : Pickup} (h : TrimFits p) (on : Bool) : TrimFits (p.setEnable on) := by
  have floor := trimFloor_le_of_inRange h.ring
  unfold Pickup.setEnable
  split
  · exact h.of_ring rfl floor (Nat.le_refl _)
  · exact h
  · exact h
  · exact h.of_trim rfl rfl

/-- Settings in range raise the trim to their trim floor at most (R132). -/
theorem TrimFits.setSettings {p : Pickup} (h : TrimFits p) {i : PickupItem} (ranged : i.ring.inRange = true) :
    TrimFits (p.setSettings i) :=
  ⟨ranged, Nat.le_max_right _ _, Nat.max_le.2 ⟨h.below, trimFloor_le_of_inRange ranged⟩⟩

theorem clampAll_ring_inRange (i : PickupItem) : i.clampAll.ring.inRange = true := by
  have ring : i.clampAll.ring = i.ring.clampAll := rfl
  rw [ring]
  exact clampAll_inRange i.ring

theorem trimFits_law : PickupLaw TrimFits where
  moves _ h := h.of_trim rfl rfl
  ends m _ h := h.blockEnd m
  silences _ h := h.of_trim rfl rfl
  holds _ h := h.of_trim rfl rfl
  resets _ h := h.of_ring rfl (trimFloor_le_of_inRange h.ring) (Nat.le_refl _)
  written i _ on h := (h.setSettings (clampAll_ring_inRange i)).setEnable on
  flagged _ _ h := h.of_trim rfl rfl

theorem trimInv_iff {s : State} : TrimInv s ↔
    (s.engine.state = .loading → s.reader.idle ∧ s.sup.Fits fun p => p.trim = 256) ∧ s.sup.Fits TrimFits :=
  ⟨fun ⟨idle, fresh, rings, trims⟩ => ⟨fun loading => ⟨idle loading, fresh loading⟩, fun p => ⟨rings p, (trims p).1, (trims p).2⟩⟩,
    fun ⟨loading, fits⟩ => ⟨fun h => (loading h).1, fun h => (loading h).2, fun p => (fits p).ring,
      fun p => ⟨(fits p).above, (fits p).below⟩⟩⟩

theorem trimInv_kept : KeptByEnds [.engine, .reader, .sup] TrimInv where
  speaks s t same hs := by
    have engine : t.engine = s.engine := same .engine (by decide)
    have reader : t.reader = s.reader := same .reader (by decide)
    have sup : t.sup = s.sup := same .sup (by decide)
    rw [trimInv_iff] at hs ⊢
    rwa [engine, reader, sup]
  apart := by decide
  ends d s hs := by
    obtain ⟨loading, fits⟩ := trimInv_iff.1 hs
    refine trimInv_iff.2 ⟨fun h => ?_, trimFits_law.kept.ends d s fits⟩
    rw [dueEffect_engine] at h
    obtain ⟨idle, fresh⟩ := loading h
    refine ⟨by rwa [dueEffect_reader], ?_⟩
    have others : .sup ∉ d.touches → (dueEffect d s).sup.Fits fun p => p.trim = 256 := fun apart =>
      fresh.of_pickups (congrArg Supervisor.pickups (dueEffect_touches s d .sup apart))
    cases d with
    | silence i => exact fresh.setPickup i (fresh i)
    | ringHold i => exact fresh.setPickup i (fresh i)
    | ramp | removal | dipLow | dipUp | fade | meter | holdoff => exact others (by simp [Due.touches])
  stopping s hs := by
    obtain ⟨loading, fits⟩ := trimInv_iff.1 hs
    have reader : (finishStopping s).reader = s.reader := finishStopping_same s .reader (by decide)
    have sup : (finishStopping s).sup = s.sup := finishStopping_same s .sup (by decide)
    rw [trimInv_iff, reader, sup]
    exact ⟨fun h => loading ((engineMoves_finishStopping s).loading h), fits⟩

/-- Every act keeps the law of the trims. -/
theorem trimInv_act (c : Instr) (concerned : concerns [.engine, .reader, .sup] c = true) (s : State) (h : TrimInv s) :
    TrimInv (act c s) := by
  obtain ⟨loading, fits⟩ := trimInv_iff.1 h
  have ending : (endOf c).isNone = true := by
    simp only [concerns, Bool.and_eq_true] at concerned
    exact concerned.1
  refine trimInv_iff.2 ⟨fun after => ?_, ?_⟩
  · rcases loading_by_reset concerned after with before | ⟨powerOn, reset⟩
    · obtain ⟨idle, fresh⟩ := loading before
      constructor
      · by_cases touched : concerns [.engine, .reader] c = true
        · exact reader_idle_act before idle touched
        · have reader : (act c s).reader = s.reader := act_touches c s .reader fun listed => touched (by simp [concerns, ending, listed])
          rwa [reader]
      · by_cases touched : concerns [.sup] c = true
        · exact trims_act before idle.2 fresh touched
        · have sup : (act c s).sup = s.sup := act_touches c s .sup fun listed => touched (by simp [concerns, ending, listed])
          rwa [sup]
    · rw [reset]
      exact ⟨⟨rfl, rfl⟩, fun p => by simp [resetAll, resetUnits, Supervisor.afterReset, Pickup.afterReset]⟩
  · by_cases touched : concerns [.sup] c = true
    · refine trimFits_law.act fits (fun before p ring ranged => ?_) touched
      have fresh : s.sup.pickups[p].trim = 256 := (loading before).2 p
      exact ⟨ranged, (trimFloor_le_of_inRange ranged).trans fresh.ge, fresh.le⟩
    · have sup : (act c s).sup = s.sup := act_touches c s .sup fun listed => touched (by simp [concerns, ending, listed])
      rwa [sup]

/-- Settles O7: every operation on a pickup keeps its trim between its trim floor and 256, and in LOADING none moves it from 256. -/
theorem trimsStayAboveTheirFloors : Obligations.TrimsStayAboveTheirFloors := fun _ _ hs h =>
  step_keeps_law trimInv_kept trimInv_act hs h

/-! ### Mute gains, silence groups and ceilings -/

/-- The range of a mute gain (R80). -/
def GainFits (g : Nat) : Prop := g ≤ 256 ∧ g % 32 = 0

/-- A mute gain moves within its range toward either aim (R80). -/
theorem GainFits.move {g : Nat} (h : GainFits g) (up : Bool) : GainFits (moveGain (if up then 256 else 0) g) := by
  obtain ⟨bound, multiple⟩ := h
  unfold GainFits moveGain
  cases up
  · simp only [Bool.false_eq_true, if_false, Nat.not_lt_zero]
    split
    · omega
    · exact ⟨bound, multiple⟩
  · simp only [if_true]
    split
    · omega
    · rw [if_neg (by omega)]
      exact ⟨bound, multiple⟩

/-- The ranges of a pickup's mute gain and silence group (R80, R119). -/
structure FactorFits (p : Pickup) : Prop where
  gain : GainFits p.muteGain
  floor : p.floor ≤ 8388607
  limit : 1 ≤ p.limit ∧ p.limit ≤ 60000

theorem FactorFits.of_settings {p q : Pickup} (h : FactorFits p) (same : q.settings = p.settings) : FactorFits q := by
  obtain ⟨floor, rest⟩ := Prod.mk.inj same
  obtain ⟨limit, rest⟩ := Prod.mk.inj rest
  obtain ⟨_, rest⟩ := Prod.mk.inj rest
  obtain ⟨_, gain⟩ := Prod.mk.inj rest
  exact ⟨by rw [gain]; exact h.gain, by rw [floor]; exact h.floor, by rw [limit]; exact h.limit⟩

theorem FactorFits.setSettings {p : Pickup} (h : FactorFits p) {i : PickupItem} (floor : i.floor ≤ 8388607)
    (limit : 1 ≤ i.limit ∧ i.limit ≤ 60000) : FactorFits (p.setSettings i) := ⟨h.gain, floor, limit⟩

theorem factorFits_law : PickupLaw FactorFits where
  moves p h := by
    have moved := h.gain.move (!p.muteFlag)
    refine ⟨?_, h.floor, h.limit⟩
    cases flag : p.muteFlag <;> simpa [pickupAim, flag] using moved
  ends m p h := h.of_settings (p.blockEnd_settings m)
  silences p h := h.of_settings p.goSilent_settings
  holds p h := h.of_settings p.endHold_settings
  resets p h := ⟨⟨Nat.zero_le _, rfl⟩, Nat.le_of_ble_eq_true rfl, Nat.le_of_ble_eq_true rfl, Nat.le_of_ble_eq_true rfl⟩
  written i p on h := by
    have floor : i.clampAll.floor = clampTo 0 8388607 i.floor := rfl
    have limit : i.clampAll.limit = clampTo 1 60000 i.limit := rfl
    refine FactorFits.of_settings (h.setSettings ?_ ?_) (setEnable_settings on _)
    · rw [floor]
      exact (clampTo_range (by decide)).2
    · rw [limit]
      exact clampTo_range (by decide)
  flagged p flag h := ⟨h.gain, h.floor, h.limit⟩

/-- Every emitter mute gain lies in its range. -/
def EmittersFit (gains : Vector Nat 96) : Prop := ∀ e : Fin 96, GainFits gains[e]

theorem emittersFit_silent : EmittersFit (Vector.replicate 96 0) := fun e => by simp [GainFits]

theorem EmittersFit.moveGains {u : Supervisor} (h : EmittersFit u.emitterGain) (running : Bool) :
    EmittersFit (u.moveGains running).emitterGain := by
  intro e
  have moved := (h e).move (running && !u.emitterFlag[e])
  simpa [Supervisor.moveGains, emitterAim] using moved

/-- A stop leaves the emitter mute gains, or sets them all to 0 where the clock is absent (R81, R87). -/
theorem writeRun0_emitterGain (s : State) :
    (writeRun0 s).sup.emitterGain = s.sup.emitterGain ∨ (writeRun0 s).sup.emitterGain = Vector.replicate 96 0 := by
  unfold writeRun0
  split
  · exact .inl rfl
  · unfold enterStopping
    extract_lets _ t
    have stopped : t.sup = s.sup := stopReader_same _ .sup (by decide)
    have finish : ∀ u : State, (finishStopping u).sup = u.sup := fun u => finishStopping_same u .sup (by decide)
    rw [finish]
    split
    · exact .inl (congrArg Supervisor.emitterGain stopped)
    · exact .inr rfl
  all_goals exact .inl rfl

theorem EmittersFit.writeRegister {s : State} (h : EmittersFit s.sup.emitterGain) (offset : Nat) (width : AccessWidth) (w : Word) :
    EmittersFit (writeRegister offset width w s).sup.emitterGain := by
  have control : EmittersFit (writeControl w s).sup.emitterGain := by
    unfold writeControl
    split
    · exact emittersFit_silent
    · extract_lets t u
      have enabled : t.sup = s.sup :=
        Eq.trans (writeVectorCount_same _ _ .sup (by decide)) (writeNoticeEnable_same _ _ .sup (by decide))
      have run : EmittersFit u.sup.emitterGain := by
        simp only [u]
        split
        · have started : (writeRun1 t).sup = s.sup := Eq.trans (writeRun1_same t .sup (by decide)) enabled
          rwa [started]
        · rcases writeRun0_emitterGain t with same | silent
          · rwa [same, enabled]
          · rw [silent]
            exact emittersFit_silent
      split
      · have swept : (sweepNow u).sup = u.sup := sweepNow_same u .sup (by decide)
        rwa [swept]
      · exact run
  unfold Machine.writeRegister
  split
  · exact h
  split
  · exact control
  split
  · exact h
  split
  · exact h
  split
  · exact h
  split
  · exact h
  · exact h

theorem installFlags_emitterGain (emitters : Bool) (fs : List Bool) (s : State) :
    (installFlags emitters fs s).sup.emitterGain = s.sup.emitterGain := by
  unfold installFlags
  split
  · rw [State.setSup_sup]
  · rw [State.setSup_sup]

theorem mutesCard_emitterGain (failAt : Option Nat) (x : Hand) (items : List Byte) (s : State) :
    (mutesCard failAt x items s).sup.emitterGain = s.sup.emitterGain := by
  unfold mutesCard
  split
  · rfl
  · split
    · rfl
    · simp only [muteRun, complete_sup, installFlags_emitterGain, landAll_sup]

theorem loadEnds_emitterGain (answers : Bool) (s : State) : (loadEnds answers s).sup.emitterGain = s.sup.emitterGain := by
  by_cases loading : s.engine.state = .loading
  · have sup : (loadEnds answers s).sup = (install (loadedFrom answers s) s).sup := loadEnds_installs answers loading .sup (by decide)
    rw [sup]
    simp only [install, State.setEngine_sup, State.setStore_sup, State.setProt_sup, State.setSup_sup, State.setTails_sup, State.setBudget_sup]
  · simp only [loadEnds, if_neg loading]

/-- The acts that write the supervisor keep the emitter mute gains in their range. -/
theorem emittersFit_act {s : State} (h : EmittersFit s.sup.emitterGain) {c : Instr} (concerned : concerns [.sup] c = true) :
    EmittersFit (act c s).sup.emitterGain := by
  cases c with
  | powerOnReset | linkReset | engineReset => exact emittersFit_silent
  | storeLoadEnd answers => rwa [act, loadEnds_emitterGain]
  | runStop =>
    rw [act]
    rcases writeRun0_emitterGain s with same | silent
    · rwa [same]
    · rw [silent]
      exact emittersFit_silent
  | registerWrite offset width w => exact h.writeRegister offset width w
  | clockReturn =>
    simp only [act, returnClock]
    split
    · exact h
    · exact emittersFit_silent
  | blockEnd =>
    simp only [act, blockEndStep]
    split
    · rw [blockEnd_emitterGain]
      exact h.moveGains _
    · exact h
  | pickups => exact onCard_keeps (P := fun t => EmittersFit t.sup.emitterGain) h fun _ _ _ => h
  | mutes failAt =>
    refine onCard_keeps (P := fun t => EmittersFit t.sup.emitterGain) h fun x items _ => ?_
    rwa [mutesCard_emitterGain]
  | _ => exact absurd concerned Bool.false_ne_true

/-- Every ceiling is below 65536 (R3). -/
def CeilingsFit (ceilings : Vector Nat 96) : Prop := ∀ e : Fin 96, ceilings[e] ≤ 65535

/-- A ceiling item has its ceiling in two bytes. -/
theorem CeilingsFit.card {s : State} (h : CeilingsFit s.budget.ceilings) (x : Hand) (items : List Byte) :
    CeilingsFit (ceilingsCard x items s).budget.ceilings := by
  refine applyItems_keeps_mem (P := fun y : Vector Nat 96 × Vector Bool 96 => CeilingsFit y.1) _ (fun y z i listed fits ok => ?_) 0
    (s.budget.ceilings, Vector.replicate 96 false) h
  obtain ⟨b, _, rfl⟩ := List.mem_map.1 listed
  unfold ceilingItem at ok
  split at ok
  · split at ok
    · cases ok
    · cases ok
      intro e
      have written : (CeilingItem.ofBytes b).ceiling < 65536 := field_lt b 2 2
      by_cases here : (CeilingItem.ofBytes b).emitter = e.val
      · simpa [here] using Nat.le_of_lt_succ written
      · simpa [here] using fits e
  · cases ok

theorem ceilings_of_protectedItems {s t : State} (h : protectedItems t = protectedItems s) : t.budget.ceilings = s.budget.ceilings :=
  congrArg Prod.fst h

/-- The acts that write the budget unit keep the ceilings in their range. -/
theorem ceilingsFit_act {s : State} (h : CeilingsFit s.budget.ceilings) {c : Instr} (concerned : concerns [.budget] c = true) :
    CeilingsFit (act c s).budget.ceilings := by
  have kept : protectedItems (act c s) = protectedItems s → CeilingsFit (act c s).budget.ceilings := fun same => by
    rwa [ceilings_of_protectedItems same]
  cases c with
  | powerOnReset | linkReset | engineReset => exact kept (protectedItems_resetAll _ s)
  | storeLoadEnd answers =>
    by_cases loading : s.engine.state = .loading
    · have budget : (loadEnds answers s).budget = (install (loadedFrom answers s) s).budget :=
        loadEnds_installs answers loading .budget (by decide)
      have installed : (install (loadedFrom answers s) s).budget.ceilings = (loadedFrom answers s).ceilings := by simp [install]
      rw [act, budget, installed]
      exact (loadedFrom_ranges answers s).2
    · simpa only [act, loadEnds, if_neg loading] using h
  | registerWrite offset width w => exact kept (protectedItems_writeRegister offset width w s)
  | lineGo =>
    simp only [act]
    split
    · have taken := protectedItems_takeGo .line (s.setStager { s.stager with lineGos := s.stager.lineGos - 1 })
      have ceilings : (takeLineGo s).budget.ceilings = s.budget.ceilings := ceilings_of_protectedItems taken
      rwa [ceilings]
    · exact h
  | go =>
    refine onCard_keeps (P := fun t => CeilingsFit t.budget.ceilings) h fun x items _ => ?_
    have ceilings : (goCard x s).budget.ceilings = s.budget.ceilings := ceilings_of_protectedItems (protectedItems_takeGo .card s)
    rwa [ceilings]
  | ceilings => exact onCard_keeps (P := fun t => CeilingsFit t.budget.ceilings) h fun x items _ => h.card x items
  | _ => exact absurd concerned Bool.false_ne_true

theorem factorInv_iff {s : State} : FactorInv s ↔
    s.sup.Fits FactorFits ∧ EmittersFit s.sup.emitterGain ∧ CeilingsFit s.budget.ceilings :=
  ⟨fun ⟨pickups, emitters, silence, ceilings⟩ =>
      ⟨fun p => ⟨pickups p, (silence p).1, (silence p).2⟩, emitters, ceilings⟩,
    fun ⟨pickups, emitters, ceilings⟩ =>
      ⟨fun p => (pickups p).gain, emitters, fun p => ⟨(pickups p).floor, (pickups p).limit⟩, ceilings⟩⟩

theorem factorInv_kept : KeptByEnds [.sup, .budget] FactorInv where
  speaks s t same hs := by
    have sup : t.sup = s.sup := same .sup (by decide)
    have budget : t.budget = s.budget := same .budget (by decide)
    rw [factorInv_iff] at hs ⊢
    rwa [sup, budget]
  apart := by decide
  ends d s hs := by
    obtain ⟨pickups, emitters, ceilings⟩ := factorInv_iff.1 hs
    have budget : (dueEffect d s).budget = s.budget := dueEffect_touches s d .budget (by cases d <;> simp [Due.touches])
    have gains : (dueEffect d s).sup.emitterGain = s.sup.emitterGain := by
      cases d with
      | silence i => rfl
      | ringHold i => rfl
      | ramp | removal | dipLow | dipUp | fade | meter | holdoff =>
        exact congrArg Supervisor.emitterGain (dueEffect_touches s _ .sup (by simp [Due.touches]))
    rw [factorInv_iff, budget, gains]
    exact ⟨factorFits_law.kept.ends d s pickups, emitters, ceilings⟩
  stopping s hs := by
    have sup : (finishStopping s).sup = s.sup := finishStopping_same s .sup (by decide)
    have budget : (finishStopping s).budget = s.budget := finishStopping_same s .budget (by decide)
    rw [factorInv_iff] at hs ⊢
    rwa [sup, budget]

/-- Every act keeps the factors and ceilings in range. -/
theorem factorInv_act (c : Instr) (concerned : concerns [.sup, .budget] c = true) (s : State) (h : FactorInv s) :
    FactorInv (act c s) := by
  obtain ⟨pickups, emitters, ceilings⟩ := factorInv_iff.1 h
  have ending : (endOf c).isNone = true := by
    simp only [concerns, Bool.and_eq_true] at concerned
    exact concerned.1
  refine factorInv_iff.2 ⟨?_, ?_, ?_⟩
  · by_cases touched : concerns [.sup] c = true
    · refine factorFits_law.act pickups (fun _ p ring _ => ?_) touched
      exact ⟨(pickups p).gain, (pickups p).floor, (pickups p).limit⟩
    · have sup : (act c s).sup = s.sup := act_touches c s .sup fun listed => touched (by simp [concerns, ending, listed])
      rwa [sup]
  · by_cases touched : concerns [.sup] c = true
    · exact emittersFit_act emitters touched
    · have sup : (act c s).sup = s.sup := act_touches c s .sup fun listed => touched (by simp [concerns, ending, listed])
      rwa [sup]
  · by_cases touched : concerns [.budget] c = true
    · exact ceilingsFit_act ceilings touched
    · have budget : (act c s).budget = s.budget := act_touches c s .budget fun listed => touched (by simp [concerns, ending, listed])
      rwa [budget]

/-- Settles O8: every operation on a pickup, an emitter gain or a ceiling keeps it in its range. -/
theorem factorsStayInRange : Obligations.FactorsStayInRange := fun _ _ hs h =>
  step_keeps_law factorInv_kept factorInv_act hs h

end Sys2Proof.Machine
end

section
/-! Run control in the words of the manual: the fields of CONTROL, the stop, and the end of STOPPING (R84 to R87, R165, R171, R182). -/

namespace Sys2Proof.Machine

/-! ### The stop -/

theorem stopReader_of_off {s : State} (h : s.reader.state = .off) : stopReader s = s := by
  simp only [stopReader, h]

/-- Between sweeps the reader goes OFF at once (R171). -/
theorem stopReader_between {s : State} (h : s.reader.state = .idle ∨ s.reader.state = .halted) :
    stopReader s = s.setReader { s.reader with state := .off, again := false } := by
  rcases h with h | h <;> simp only [stopReader, h]

theorem stopReader_with_card {s : State} (h : s.reader.state = .sweeping) {x : Hand} (hand : s.reader.hand = some x) :
    stopReader s = s := by
  simp only [stopReader, h, hand, Option.isSome_some, if_true]

/-- In a sweep with no card in hand the reader goes OFF, and writes the progress record where the sweep has finished a card (R171). -/
theorem stopReader_in_sweep {s : State} (h : s.reader.state = .sweeping) (hand : s.reader.hand = none) :
    stopReader s = (if s.reader.finished then progressOccasion s else s).setReader
      { s.reader with state := .off, again := false, finished := false } := by
  have reader : (if s.reader.finished then progressOccasion s else s).reader = s.reader := by split <;> simp
  simp only [stopReader, h, hand, Option.isSome_none, Bool.false_eq_true, if_false, readerOff, reader]

/-- With RUN 0, STOPPING ends in STOPPED where its condition holds (R87). -/
theorem finishStopping_engine {s : State} (stopping : s.engine.state = .stopping) (run : s.engine.run = false) :
    (finishStopping s).engine = { s.engine with
      state := if s.reader.state = .off ∧ (s.mix.clock = false ∨ ∀ e : Fin 96, s.sup.emitterGain[e] = 0) then .stopped
        else .stopping } := by
  rw [finishStopping_eq]
  by_cases ended : s.reader.state = .off ∧ (s.mix.clock = false ∨ ∀ e : Fin 96, s.sup.emitterGain[e] = 0)
  · rw [if_pos ⟨stopping, ended⟩, if_pos ended]
    simp only [run, Bool.false_eq_true, if_false]
    rfl
  · rw [if_neg fun both => ended both.2, if_neg ended, ← stopping]

/-- The stop of the engine, taken apart: the reader stops, with the clock absent the emitters fall silent, and STOPPING may end at
once (R87). -/
theorem enterStopping_parts (s : State) :
    let stopping := s.setEngine { s.engine with state := .stopping, run := false }
    let t := enterStopping s
    t.reader = (stopReader stopping).reader ∧ t.progress = (stopReader stopping).progress
      ∧ t.sup = (if s.mix.clock then s.sup else { s.sup with emitterGain := Vector.replicate 96 0 })
      ∧ t.engine = { s.engine with
          run := false
          state := if t.reader.state = .off ∧ (s.mix.clock = false ∨ ∀ e : Fin 96, s.sup.emitterGain[e] = 0)
            then .stopped else .stopping } := by
  intro stopping
  have engine : (stopReader stopping).engine = stopping.engine := stopReader_same stopping .engine (by decide)
  have mix : (stopReader stopping).mix = s.mix := stopReader_same stopping .mix (by decide)
  have sup : (stopReader stopping).sup = s.sup := stopReader_same stopping .sup (by decide)
  have entered : enterStopping s =
      finishStopping (if s.mix.clock then stopReader stopping else silenceEmitters (stopReader stopping)) := by
    rw [← mix]
    rfl
  have finish : ∀ u : State, SameOutside [.engine] u (finishStopping u) := finishStopping_same
  intro t
  have reader : t.reader = (stopReader stopping).reader := by
    simp only [t, entered]
    refine Eq.trans (finish _ .reader (by decide)) ?_
    split <;> rfl
  refine ⟨reader, ?_, ?_, ?_⟩
  · simp only [t, entered]
    refine Eq.trans (finish _ .progress (by decide)) ?_
    split <;> rfl
  · simp only [t, entered]
    refine Eq.trans (finish _ .sup (by decide)) ?_
    split
    · exact sup
    · rw [silenceEmitters, State.setSup_sup, sup]
  · rw [reader]
    have stopped : ∀ u : State, u.engine = stopping.engine → u.reader = (stopReader stopping).reader → u.mix = s.mix →
        (s.mix.clock = true → u.sup = s.sup) → (finishStopping u).engine = { s.engine with
          run := false
          state := if (stopReader stopping).reader.state = .off ∧ (s.mix.clock = false ∨ ∀ e : Fin 96, s.sup.emitterGain[e] = 0)
            then .stopped else .stopping } := by
      intro u engine reader mix sup
      rw [finishStopping_engine (by rw [engine]; rfl) (by rw [engine]; rfl), engine, reader, mix]
      cases clock : s.mix.clock with
      | true =>
        rw [sup clock]
        rfl
      | false =>
        simp only [true_or, and_true]
        rfl
    simp only [t, entered]
    split
    · exact stopped _ engine rfl mix fun _ => sup
    · rename_i absent
      exact stopped _ engine rfl mix fun present => absurd present absent

/-- Settles O23: the write of RUN by engine state, and the stop taken apart by the reader's state. -/
theorem runFieldWrites : Obligations.RunFieldWrites := by
  refine ⟨fun s settled => ?_, fun s settled loading => ?_, fun s settled waiting => ?_, fun s settled running => ?_⟩
  · rw [exec_of_settled settled]
    simp only [act, writeRun1]
    cases state : s.engine.state with
    | stopped =>
      cases run : s.engine.run with
      | false => rfl
      | true => rfl
    | loading | starting | running | stopping => rfl
  · rw [exec_of_settled settled]
    simp only [act, writeRun0, loading]
  · rw [exec_of_settled settled]
    simp only [act, writeRun0]
    rcases waiting with state | state | state
    all_goals simp only [state]
  · obtain ⟨reader, progress, sup, engine⟩ := enterStopping_parts s
    have stops : act .runStop s = enterStopping s := by simp only [act, writeRun0, running]
    rw [exec_of_settled settled, stops]
    refine ⟨_, rfl, reader.trans ?_, sup, engine, progress.trans ?_, ?_⟩
    · cases state : s.reader.state with
      | off => rw [stopReader_of_off (by exact state)]; rfl
      | idle => rw [stopReader_between (.inl (by exact state))]; rfl
      | halted => rw [stopReader_between (.inr (by exact state))]; rfl
      | sweeping =>
        cases hand : s.reader.hand with
        | some x => rw [stopReader_with_card (by exact state) (by exact hand)]; rfl
        | none => rw [stopReader_in_sweep (by exact state) (by exact hand)]; rfl
    · cases state : s.reader.state with
      | off => rw [stopReader_of_off (by exact state), if_neg (by simp)]; rfl
      | idle => rw [stopReader_between (.inl (by exact state)), if_neg (by simp)]; rfl
      | halted => rw [stopReader_between (.inr (by exact state)), if_neg (by simp)]; rfl
      | sweeping =>
        cases hand : s.reader.hand with
        | some x => rw [stopReader_with_card (by exact state) (by exact hand), if_neg (by simp)]; rfl
        | none =>
          rw [stopReader_in_sweep (by exact state) (by exact hand)]
          cases finished : s.reader.finished <;> simp [finished]
    · exact stops ▸ (act_touches .runStop s).mono (by decide)

/-! ### The end of STOPPING -/

theorem exec_stoppingEnd (s : State) : exec .stoppingEnd s = .next (settle s) := by
  rw [exec_eq, before_eq_settle (c := .stoppingEnd) rfl (fun h => by cases h)]
  obtain ⟨_, _, done⟩ := settled_settle s
  simp only [act, finishStopping, done, Bool.false_eq_true, if_false]

/-- Settling where nothing is due and STOPPING has met its condition (R87, R90). -/
theorem settle_ends_stopping {s : State} (due : s.due = []) (stopping : s.engine.state = .stopping) (off : s.reader.state = .off)
    (silent : s.mix.clock = false ∨ ∀ e : Fin 96, s.sup.emitterGain[e] = 0) :
    let t := s.setEngine (if s.engine.run then
        { state := .starting, run := true, startAddr := s.regs.exchangeHigh.toNat * 2 ^ 32 + s.regs.exchangeLow.toNat }
      else { s.engine with state := .stopped })
    settle s = if s.mix.opening then openBlock t else t := by
  intro t
  have ended : finishStopping s = t := (finishStopping_eq s).trans (if_pos ⟨stopping, off, silent⟩)
  rw [settle_of_nothing_due due, ended]

/-- A block end closes the block where one is full (R90). -/
theorem blockEndStep_of_full {s : State} {b : Block} (clock : s.mix.clock = true) (awake : s.engine.state ≠ .loading)
    (block : s.mix.block = some b) (full : 48 ≤ b.index) : blockEndStep s = blockEnd b s := by
  have closes : s.fullBlock = some b := by simp [State.fullBlock, State.processes, block, clock, awake, full]
  simp only [blockEndStep, closes]

theorem closeBlock_mix (b : Block) (s : State) : (closeBlock b s).mix = s.mix.close b := by
  unfold closeBlock
  extract_lets t
  split
  · rfl
  · rfl

/-- The mix engine after a block end (R90, R100). -/
theorem blockEnd_mix (b : Block) (s : State) : (blockEnd b s).mix = s.mix.close b := by
  have before : (holdoffActs (metersAct b (pickupsAct b (fadeActs (rampsAct s))))).mix = s.mix :=
    Eq.trans (holdoffActs_same _ .mix (by decide)) (Eq.trans (metersAct_same _ b .mix (by decide))
      (Eq.trans (pickupsAct_same _ b .mix (by decide)) (fadeActs_same (rampsAct s) .mix (by decide))))
  rw [blockEnd, closeBlock_mix, before]

/-- A mute gain of at most 32 is at 0 after a block end that moves it down (R80). -/
theorem moveGain_to_zero {g : Nat} (h : g ≤ 32) : moveGain 0 g = 0 := by
  unfold moveGain
  split
  · omega
  · split <;> omega


/-- Settles O24: where STOPPING may end, settling ends it; and the block end that takes the last emitter gain to 0 leaves it so. -/
theorem stoppingEndsInStoppedOrStarting : Obligations.StoppingEndsInStoppedOrStarting := by
  refine ⟨fun s due stopping off silent => ?_, exec_stoppingEnd, fun s b settled stopping off clock block full low => ?_⟩
  · rw [exec_stoppingEnd, settle_ends_stopping due stopping off silent]
  · have closes : exec .blockEnd s = .next (blockEnd b s) := by
      rw [exec_of_settled settled, act, blockEndStep_of_full clock (by simp [stopping]) block full]
    have same : SameOutside [.due, .table, .sup, .stager, .notice, .meter, .cue, .mix] s (blockEnd b s) := by
      have step := blockEndStep_same s
      rwa [blockEndStep_of_full clock (by simp [stopping]) block full] at step
    have engine : (blockEnd b s).engine = s.engine := same .engine (by decide)
    have regs : (blockEnd b s).regs = s.regs := same .regs (by decide)
    have reader : (blockEnd b s).reader = s.reader := same .reader (by decide)
    have mix := blockEnd_mix b s
    have silent : ∀ e : Fin 96, (blockEnd b s).sup.emitterGain[e] = 0 := by
      intro e
      have moved := moveGain_to_zero (low e)
      simpa [blockEnd_emitterGain, Supervisor.moveGains, stopping, emitterAim] using moved
    have taken : ∀ e : Fin 96, (takeAllDue (blockEnd b s)).sup.emitterGain[e] = 0 := by simpa using silent
    have ended : finishStopping (takeAllDue (blockEnd b s)) = (takeAllDue (blockEnd b s)).setEngine (if s.engine.run then
          { state := .starting, run := true, startAddr := s.regs.exchangeHigh.toNat * 2 ^ 32 + s.regs.exchangeLow.toNat }
        else { s.engine with state := .stopped }) := by
      rw [finishStopping_eq, takeAllDue_engine, takeAllDue_reader, takeAllDue_regs, engine, reader, regs,
        if_pos ⟨stopping, off, .inr taken⟩]
    have waits : (takeAllDue (blockEnd b s)).mix.opening = true := by
      rw [takeAllDue_mix, mix]
      rfl
    have settles : settle (blockEnd b s) = openBlock (finishStopping (takeAllDue (blockEnd b s))) := by
      simp only [settle, finishStopping_mix, waits, if_true]
    refine ⟨_, settle (blockEnd b s), closes, engine, by rw [mix]; rfl, exec_stoppingEnd _, ?_, ?_, ?_, ?_⟩
    · rw [settles]
      rfl
    · rw [settles]
      rfl
    · rw [settles, ended]
      exact taken
    · rw [settles, ended]
      rfl

/-! ### The root read -/

theorem take_four (v : Vector Byte 64) : v.toList.take 4 = [v[0], v[1], v[2], v[3]] := by
  refine List.ext_getElem (by simp) fun i short listed => ?_
  have four : i < 4 := listed
  interval_cases i <;> simp

theorem rootSignature_iff (v : Vector Byte 64) :
    rootSignature v.toList = true ↔ v[0] = 0x52 ∧ v[1] = 0x51 ∧ v[2] = 0x58 ∧ v[3] = 0x31 := by
  rw [rootSignature, take_four, beq_iff_eq]
  simp only [List.cons.injEq, and_true]
  rfl

theorem Root.valid_iff (r : Root) : r.valid = true ↔ 1 ≤ r.slotCount ∧ r.slotCount ≤ 256 ∧ 1 ≤ r.sweepInterval
    ∧ r.sweepInterval ≤ 10000 ∧ r.meterInterval ≤ 60000 ∧ r.cardTable % 64 = 0 ∧ r.meterPage % 64 = 0 ∧ r.noticeAddr % 4 = 0 := by
  simp only [Root.valid, Bool.and_eq_true, decide_eq_true_eq]
  tauto

theorem rootOfRead_some (a : Nat) (v : Vector Byte 64) :
    Root.ofRead a (some v) = if rootSignature v.toList && (Root.ofBytes a v.toList).valid then some (Root.ofBytes a v.toList) else none :=
  rfl

/-- Settles O25: the conditions of a valid root as they are read, and the three outcomes of the read. -/
theorem rootReadEndsStarting : Obligations.RootReadEndsStarting := by
  refine ⟨fun a => ⟨rfl, fun v => ⟨?_, fun r read => ?_⟩⟩, fun s data settled starting => ?_⟩
  · rw [rootOfRead_some, Option.isSome_ite, Bool.and_eq_true, rootSignature_iff, Root.valid_iff]
    exact Iff.rfl
  · rw [rootOfRead_some] at read
    split at read
    · cases read
      exact ⟨rfl, rfl, rfl, rfl, rfl, rfl, rfl, rfl, rfl⟩
    · cases read
  · have same : SameOutside [.engine, .root, .regs, .notice, .reader, .meter] s (rootRead data s) := (rootRead_same s data).mono (by decide)
    rw [exec_of_settled settled]
    refine ⟨_, rfl, same, ?_⟩
    simp only [act, rootRead, starting, if_true]
    cases read : Root.ofRead s.engine.startAddr data with
    | none =>
      simp only [failStart]
      refine ⟨?_, ?_, ?_, ?_, ?_, ?_⟩
      · rw [setFault_engine]
        rfl
      · rw [setFault_root]
        rfl
      · rw [setFault_reader]
        rfl
      · rw [setFault_meter]
        rfl
      · rw [setFault_regs]
        rfl
      · rw [setFault_notice, setFault_notice]
        rfl
    | some r =>
      simp only []
      cases run : s.engine.run with
      | true => 
        simp only [if_true]
        refine ⟨?_, rfl, rfl, rfl, rfl, rfl⟩
        rw [← run]
        rfl
      | false => rfl

end Sys2Proof.Machine
end

section
/-! Numbers and records of bytes read back: a field of a record laid out block by block is the number that was written there (R6, R173). -/

namespace Sys2Proof.Machine

theorem leNat_leBytes (n v : Nat) : leNat (leBytes n v) = v % 256 ^ n := by
  induction n generalizing v with
  | zero => simp [leBytes, leNat, Nat.mod_one]
  | succ n ih =>
    have byte : (BitVec.ofNat 8 v).toNat = v % 256 := BitVec.toNat_ofNat _ _
    rw [leBytes, leNat, ih, byte, Nat.pow_succ, Nat.mul_comm (256 ^ n), Nat.mod_mul]

theorem field_leBytes (n v : Nat) : field (leBytes n v) 0 n = v % 256 ^ n := by
  rw [field, List.drop_zero, List.take_of_length_le (leBytes_length n v).le, leNat_leBytes]

/-- A field that lies in the first block of a record. -/
theorem field_append_left {xs : List Byte} {i n : Nat} (ys : List Byte) (h : i + n ≤ xs.length) :
    field (xs ++ ys) i n = field xs i n := by
  rw [field, field, List.drop_append_of_le_length (by omega), List.take_append_of_le_length (by rw [List.length_drop]; omega)]

/-- A field that lies past the first block of a record. -/
theorem field_append_right {xs : List Byte} {i : Nat} (ys : List Byte) (n : Nat) (h : xs.length ≤ i) :
    field (xs ++ ys) i n = field ys (i - xs.length) n := by
  rw [field, field, List.drop_append, List.drop_of_length_le h, List.nil_append]

theorem field_leBytes_append (n v : Nat) (ys : List Byte) : field (leBytes n v ++ ys) 0 n = v % 256 ^ n := by
  rw [field_append_left ys (by simp), field_leBytes]

theorem field_past_leBytes {m i : Nat} (v : Nat) (ys : List Byte) (n : Nat) (h : m ≤ i) :
    field (leBytes m v ++ ys) i n = field ys (i - m) n := by
  rw [field_append_right ys n (by simpa using h), leBytes_length]

@[simp] theorem zeros_length (n : Nat) : (zeros n).length = n := List.length_replicate

theorem field_past_zeros {m i : Nat} (ys : List Byte) (n : Nat) (h : m ≤ i) : field (zeros m ++ ys) i n = field ys (i - m) n := by
  rw [field_append_right ys n (by simpa using h), zeros_length]

/-- A flag set of `n` flags is a number below 2 ^ n. -/
theorem flagsNat_lt (fs : List Bool) : flagsNat fs < 2 ^ fs.length := by
  induction fs with
  | nil => simp [flagsNat]
  | cons b fs ih =>
    have bit := Bool.toNat_lt b
    rw [flagsNat, List.length_cons, Nat.pow_succ]
    omega

end Sys2Proof.Machine
end

section
/-! The register window (R160 to R162, R165, R182). -/

namespace Sys2Proof.Machine

/-! ### The fields of CONTROL, FAULT and the mask -/

/-- Settles O26: each field's write, by the definition of its command. -/
theorem controlFieldWrites : Obligations.ControlFieldWrites := by
  intro s on code settled
  simp only [exec_of_settled settled]
  refine ⟨?_, rfl, ?_, rfl⟩
  · cases on
    · rfl
    · rfl
  · simp only [act, sweepNow]
    cases s.reader.state with
    | off | idle | halted | sweeping => rfl

/-- Settles O27: FAULT loses the bits written 1, and a new mask flushes the vectors it frees. -/
theorem faultAndMaskWrites : Obligations.FaultAndMaskWrites := by
  intro s w settled
  refine ⟨⟨_, exec_of_settled settled _, rfl, fun b => ?_⟩, exec_of_settled settled _⟩
  have bit : b.num < 6 := by cases b <;> decide
  simp [act, writeFault, Regs.clearFault, State.hasFault, bit]

/-! ### Writes in the register window -/

/-- The register window, register by register: a whole word at a register's offset acts on it, and any other write is dropped. -/
theorem writeRegister_eq (offset : Nat) (width : AccessWidth) (w : Word) (s : State) : writeRegister offset width w s =
    if width = .word ∧ offset = 0x0C then s.setRegs { s.regs with exchangeLow := w &&& 0xFFFFFFC0#32 }
    else if width = .word ∧ offset = 0x10 then s.setRegs { s.regs with exchangeHigh := w }
    else if width = .word ∧ offset = 0x14 then writeNoticeMask w s
    else if width = .word ∧ offset = 0x18 then writeFault w s
    else if width = .word ∧ offset = 0x04 then writeControl w s
    else s := by
  unfold writeRegister
  by_cases word : width = .word
  · subst word
    simp only [ne_eq, not_true, if_false, true_and]
    by_cases control : offset = 0x04
    · subst control
      rfl
    · simp only [if_neg control]
      rfl
  · simp only [ne_eq, word, not_false_eq_true, if_true, false_and, if_false]

/-! ### Reads of the register window -/

/-- A bit of a field of a register, `k` bits from bit `a` on. -/
theorem getLsbD_of_field {n f a k i : Nat} (h : n / 2 ^ a % 2 ^ k = f) (bit : i < k) (fits : a + k ≤ 32) :
    (BitVec.ofNat 32 n).getLsbD (a + i) = f.testBit i := by
  have within : a + i < 32 := by omega
  rw [← h, Nat.testBit_mod_two_pow, Nat.testBit_div_two_pow, BitVec.getLsbD_ofNat, Nat.add_comm a i]
  simp [bit, Nat.add_comm i a, within]

/-- A field of a register is extracted. -/
theorem extract_of_field {n f a k : Nat} (h : n / 2 ^ a % 2 ^ k = f) (fits : a + k ≤ 32) :
    (BitVec.ofNat 32 n).extractLsb' a k = BitVec.ofNat k f := by
  refine BitVec.eq_of_getLsbD_eq fun i bit => ?_
  rw [BitVec.getLsbD_extractLsb', getLsbD_of_field h bit fits, BitVec.getLsbD_ofNat]

/-- CONTROL reads with RUN in bit 0, NOTICE ENABLE in bit 2, VECTOR COUNT in bits 4 and 5, and every other bit 0 (R161). -/
theorem control_reads (s : State) :
    let c := BitVec.ofNat 32 (controlValue s)
    c.getLsbD 0 = s.engine.run ∧ c.getLsbD 2 = s.notice.enable ∧ c.extractLsb' 4 2 = s.notice.vectorCode
      ∧ ∀ i, i < 32 → i ≠ 0 → i ≠ 2 → i ≠ 4 → i ≠ 5 → c.getLsbD i = false := by
  intro c
  have run := Bool.toNat_lt s.engine.run
  have enable := Bool.toNat_lt s.notice.enable
  have code := s.notice.vectorCode.isLt
  refine ⟨?_, ?_, ?_, fun i low not_run not_enable not_code not_code' => ?_⟩
  · have bit := getLsbD_of_field (n := controlValue s) (f := s.engine.run.toNat) (a := 0) (k := 1) (i := 0)
      (by simp only [controlValue]; omega) (by decide) (by decide)
    rw [bit]
    cases s.engine.run <;> rfl
  · have bit := getLsbD_of_field (n := controlValue s) (f := s.notice.enable.toNat) (a := 2) (k := 1) (i := 0)
      (by simp only [controlValue]; omega) (by decide) (by decide)
    rw [bit]
    cases s.notice.enable <;> rfl
  · rw [extract_of_field (f := s.notice.vectorCode.toNat) (by simp only [controlValue]; omega) (by decide), BitVec.ofNat_toNat]
    rfl
  · by_cases high : 6 ≤ i
    · have bit := getLsbD_of_field (n := controlValue s) (f := 0) (a := 6) (k := 26) (i := i - 6)
        (by simp only [controlValue]; omega) (by omega) (by decide)
      rw [Nat.add_sub_cancel' high] at bit
      rw [bit, Nat.zero_testBit]
    · have place : i = 1 ∨ i = 3 := by omega
      rcases place with rfl | rfl
      · exact (getLsbD_of_field (f := 0) (a := 1) (k := 1) (i := 0) (by simp only [controlValue]; omega) (by decide) (by decide)).trans
          (Nat.zero_testBit 0)
      · exact (getLsbD_of_field (f := 0) (a := 3) (k := 1) (i := 0) (by simp only [controlValue]; omega) (by decide) (by decide)).trans
          (Nat.zero_testBit 0)

theorem engineCode_lt (e : EngineState) : e.code < 8 := by cases e <;> decide
theorem readerCode_lt (r : ReaderState) : r.code < 4 := by cases r <;> decide
theorem storeCode_lt (x : StoreState) : x.code < 4 := by
  unfold StoreState.code
  split <;> decide

/-- STATUS reads with each of its fields in its place (R161). -/
theorem status_reads (s : State) :
    let c := BitVec.ofNat 32 (statusValue s)
    c.extractLsb' 0 3 = BitVec.ofNat 3 s.engine.state.code ∧ c.extractLsb' 4 2 = BitVec.ofNat 2 s.reader.state.code
      ∧ c.extractLsb' 6 2 = BitVec.ofNat 2 s.store.state.code ∧ c.getLsbD 8 = s.mix.clock
      ∧ (∀ l : Fin 4, c.getLsbD (9 + l.val) = s.mix.locks[l])
      ∧ (∀ v : Fin 8, c.getLsbD (16 + v.val) = s.notice.pending[v].isSome) ∧ c.extractLsb' 24 8 = 0x02#8 := by
  intro c
  have engine := engineCode_lt s.engine.state
  have reader := readerCode_lt s.reader.state
  have store := storeCode_lt s.store.state
  have clock := Bool.toNat_lt s.mix.clock
  have locks : flagsNat s.mix.locks.toList < 2 ^ 4 := by simpa using flagsNat_lt s.mix.locks.toList
  have pend : flagsNat (s.notice.pending.toList.map Option.isSome) < 2 ^ 8 := by
    simpa using flagsNat_lt (s.notice.pending.toList.map Option.isSome)
  refine ⟨extract_of_field ?_ (by decide), extract_of_field ?_ (by decide), extract_of_field ?_ (by decide), ?_, fun l => ?_,
    fun v => ?_, extract_of_field (f := 2) ?_ (by decide)⟩
  · simp only [statusValue]
    omega
  · simp only [statusValue]
    omega
  · simp only [statusValue]
    omega
  · have bit := getLsbD_of_field (n := statusValue s) (f := s.mix.clock.toNat) (a := 8) (k := 1) (i := 0)
      (by simp only [statusValue]; omega) (by decide) (by decide)
    rw [bit]
    cases s.mix.clock <;> rfl
  · have bit := getLsbD_of_field (n := statusValue s) (f := flagsNat s.mix.locks.toList) (a := 9) (k := 4)
      (by simp only [statusValue]; omega) l.isLt (by decide)
    rw [bit, flagsNat_testBit]
    simp
  · have bit := getLsbD_of_field (n := statusValue s) (f := flagsNat (s.notice.pending.toList.map Option.isSome)) (a := 16) (k := 8)
      (by simp only [statusValue]; omega) v.isLt (by decide)
    rw [bit, flagsNat_testBit]
    simp
  · simp only [statusValue]
    omega

/-- Settles O28: the window's writes register by register, and its reads field by field. -/
theorem registerWindow : Obligations.RegisterWindow := by
  refine ⟨fun s offset width w settled => ?_, fun s offset width settled => ?_⟩
  · simp only [exec_of_settled settled, act]
    rw [writeRegister_eq]
    simp only [writeControl, apply_ite Host.Outcome.next]
  · have read : ∀ offset width, readRegister offset width s =
        if width ≠ .word then 0
        else if offset = 0x00 then 0x56A33296
        else if offset = 0x04 then BitVec.ofNat 32 (controlValue s)
        else if offset = 0x08 then BitVec.ofNat 32 (statusValue s)
        else if offset = 0x0C then s.regs.exchangeLow
        else if offset = 0x10 then s.regs.exchangeHigh
        else if offset = 0x14 then s.notice.mask.setWidth 32
        else if offset = 0x18 then s.regs.fault.setWidth 32
        else 0 := by
      intro offset width
      rw [readRegister, settle_of_settled settled]
    refine ⟨fun narrow => ?_, read _ _, read _ _, read _ _, read _ _, read _ _, fun unused => ?_, ?_, ?_⟩
    · rw [read, if_pos narrow]
    · simp only [List.mem_cons, List.not_mem_nil, or_false, not_or] at unused
      obtain ⟨not0, not4, not8, notC, not10, not14, not18⟩ := unused
      rw [read, if_neg not0, if_neg not4, if_neg not8, if_neg notC, if_neg not10, if_neg not14, if_neg not18, ite_self]
    · exact (read 0x04 .word) ▸ control_reads s
    · exact (read 0x08 .word) ▸ status_reads s

end Sys2Proof.Machine
end

section
/-! Path keys (R7, R8); the state after reset, the resets and the load (R88, R192). -/

namespace Sys2Proof.Machine

/-! ### Path keys -/

theorem ofCodes_codes (k : Key) : Key.ofCodes k.sourceCode k.destCode = some k := by
  cases k with
  | pickupToEmitter p e => simp [Key.ofCodes, Key.sourceCode, Key.destCode]
  | tailToEmitter t e =>
    have source : ¬ 128 + t.val < 32 := by omega
    have tail : 128 + t.val < 144 := by omega
    simp [Key.ofCodes, Key.sourceCode, Key.destCode, source, tail]
  | pickupToTail p t =>
    have dest : ¬ 128 + t.val < 96 := by omega
    have tail : 128 + t.val < 144 := by omega
    simp [Key.ofCodes, Key.sourceCode, Key.destCode, dest, tail]

theorem ofCodes_eq_none_iff (s d : Nat) : Key.ofCodes s d = none ↔
    ¬ ((s < 32 ∨ (128 ≤ s ∧ s < 144)) ∧ (d < 96 ∨ (128 ≤ d ∧ d < 144)) ∧ (128 ≤ d → s < 32)) := by
  unfold Key.ofCodes
  split
  · split
    · simp only [reduceCtorEq, false_iff, not_not]
      omega
    · split
      · simp only [reduceCtorEq, false_iff, not_not]
        omega
      · simp only [true_iff]
        omega
  · split
    · split
      · simp only [reduceCtorEq, false_iff, not_not]
        omega
      · simp only [true_iff]
        omega
    · simp only [true_iff]
      omega

theorem sourceCode_lt (k : Key) : k.sourceCode < 256 := by
  cases k <;> simp only [Key.sourceCode] <;> omega

/-- Settles O17: the codes of a key name it back, and its rank is its destination code before its source code. -/
theorem keyCodesNameKeys : Obligations.KeyCodesNameKeys := by
  refine ⟨ofCodes_codes, ofCodes_eq_none_iff, fun a b => ?_, fun p e t => ⟨⟨rfl, rfl⟩, ⟨rfl, rfl⟩, rfl, rfl⟩⟩
  have ha := sourceCode_lt a
  have hb := sourceCode_lt b
  simp only [Key.rank]
  omega

/-! ### The state after reset -/

/-- Settles O12: every law of the reset state, each on units at their reset values. -/
theorem resetMeetsEveryLaw : Obligations.ResetMeetsEveryLaw := by
  refine ⟨?_, ?_, ?_, ?_, ?_, ?_, ?_, ?_, ?_⟩
  · exact List.Pairwise.nil
  · constructor <;> simp [State.reset, Stager.afterReset, Standby.items, destCount]
  · constructor <;> simp [State.reset, Reader.afterReset, tailWeight, targetSum, sumOver]
  · refine trimInv_iff.2 ⟨fun _ => ⟨⟨rfl, rfl⟩, fun p => by simp [State.reset, Pickup.afterReset]⟩, fun p => ?_⟩
    have pickup : State.reset.sup.pickups[p] = Pickup.afterReset .factory := by simp [State.reset]
    rw [pickup]
    constructor <;> decide
  · refine factorInv_iff.2 ⟨fun p => ?_, emittersFit_silent, fun e => ?_⟩
    · have pickup : State.reset.sup.pickups[p] = Pickup.afterReset .factory := by simp [State.reset]
      rw [pickup]
      exact ⟨⟨by decide, by decide⟩, by decide, by decide⟩
    · simp [State.reset]
  · constructor <;> simp [State.reset, Reader.afterReset]
  · exact noticeInv_iff.2 (NoticeUnit.lawful_afterReset _)
  · constructor <;> simp [State.reset]
  · exact ⟨rfl, rfl, rfl⟩

/-! ### Resets -/

theorem landProgress_of_none {s : State} (h : s.progress.inFlight = none) : landProgress s = s := by
  simp only [landProgress, h]

theorem landProgress_of_some {s : State} {x : Transfer} (h : s.progress.inFlight = some x) :
    (landProgress s).hostMem =
        (if s.notice.handed.any (waitsForProgress s) || Config.progressLandsAtReset s.freeIndex then s.hostMem.putAll x.addr x.bytes
          else s.hostMem)
      ∧ (landProgress s).freeIndex = s.freeIndex + 1 := by
  have lands : landProgress s = (if progressLands s then land x s else s).setFreeIndex (s.freeIndex + 1) := by
    simp only [landProgress, h]
  refine ⟨?_, by rw [lands]; rfl⟩
  rw [lands, State.setFreeIndex_hostMem, apply_ite State.hostMem]
  rfl

theorem landHanded_of_none {s : State} (h : s.notice.handed = none) : landHanded s = s := by
  simp only [landHanded, h]

theorem landHanded_of_some {s : State} {w : NoticeWrite} (h : s.notice.handed = some w) :
    (landHanded s).hostMem = s.hostMem.putAll w.addr (leBytes 4 w.data) := by
  simp only [landHanded, h]
  rfl

/-- The writes that land before a reset touch host memory and the count of free values at most. -/
theorem landed_same (s : State) : SameOutside [.hostMem, .freeIndex] s (landHanded (landProgress s)) :=
  (landHanded_same (landProgress s)).after (landProgress_same s) (by decide) (by decide)

/-- Settles O21: a reset writes every unit in the state in which the writes handed over have landed. -/
theorem resetsSetEveryUnit : Obligations.ResetsSetEveryUnit := by
  intro s settled
  have same := landed_same s
  have regs : (landHanded (landProgress s)).regs = s.regs := same .regs (by decide)
  have budget : (landHanded (landProgress s)).budget = s.budget := same .budget (by decide)
  have tails : (landHanded (landProgress s)).tails = s.tails := same .tails (by decide)
  have sup : (landHanded (landProgress s)).sup = s.sup := same .sup (by decide)
  have prot : (landHanded (landProgress s)).prot = s.prot := same .prot (by decide)
  have store : (landHanded (landProgress s)).store = s.store := same .store (by decide)
  have pending : (landHanded (landProgress s)).pending = s.pending := same .pending (by decide)
  have notice : (landProgress s).notice = s.notice := landProgress_same s .notice (by decide)
  have handed : (landHanded (landProgress s)).freeIndex = (landProgress s).freeIndex := landHanded_same _ .freeIndex (by decide)
  refine ⟨by rw [exec_of_settled settled, exec_of_settled settled]; rfl, resetAll true s, resetAll false s,
    exec_of_settled settled _, exec_of_settled settled _, ?_, rfl, rfl, rfl, rfl, rfl, rfl, rfl, ?_, rfl, ?_, fun p => ?_, rfl, rfl, rfl,
    rfl, rfl, rfl, ?_, ?_, ?_, pending, ?_⟩
  · simp [resetAll, resetUnits, State.setRegs, Regs.afterReset, regs]
  · exact congrArg (fun b : Budget => { b with clamped := Vector.replicate 96 false }) budget
  · exact congrArg (fun t : TailBank => { t with designs := Vector.replicate 16 none, memory := Vector.replicate 16 [] }) tails
  · simp [resetAll, resetUnits, Supervisor.afterReset, Pickup.afterReset, sup]
  · exact congrArg (fun p : Protect => { p with wrong := 0 }) prot
  · exact congrArg (fun x : Store => { x with state := .loading }) store
  · refine Eq.trans handed ?_
    cases flying : s.progress.inFlight with
    | none => rw [landProgress_of_none flying]; rfl
    | some x => exact (landProgress_of_some flying).2
  · rw [resetAll_hostMem]
    cases lands : s.notice.handed with
    | none =>
      rw [landHanded_of_none (notice ▸ lands)]
      cases flying : s.progress.inFlight with
      | none => rw [landProgress_of_none flying]
      | some x => rw [(landProgress_of_some flying).1, lands]
    | some w =>
      rw [landHanded_of_some (notice ▸ lands)]
      cases flying : s.progress.inFlight with
      | none => rw [landProgress_of_none flying]
      | some x => rw [(landProgress_of_some flying).1, lands]

end Sys2Proof.Machine
end

section
/-! What FAULT and the notice unit take of an event; and the load (R162, R180, R192). -/

namespace Sys2Proof.Machine

/-! ### Events that raise, on states that differ elsewhere -/

/-- Two states are one to an event: FAULT, the notice unit, the root and the writes in flight are the same. -/
structure EventsAlike (s t : State) : Prop where
  regs : t.regs = s.regs
  notice : t.notice = s.notice
  root : t.root = s.root
  progress : t.progress = s.progress
  reader : t.reader = s.reader

theorem EventsAlike.of_same {ps : List Part} {s t : State} (h : SameOutside ps s t)
    (apart : [Part.regs, .notice, .root, .progress, .reader].any ps.contains = false) : EventsAlike s t := by
  simp only [List.any_cons, List.any_nil, Bool.or_false, Bool.or_eq_false_iff, List.contains_eq_mem, decide_eq_false_iff_not] at apart
  obtain ⟨regs, notice, root, progress, reader⟩ := apart
  exact ⟨h .regs regs, h .notice notice, h .root root, h .progress progress, h .reader reader⟩

theorem EventsAlike.raise {s t : State} (h : EventsAlike s t) (b : Raiser) (k : NoticeKind) :
    EventsAlike (raise b k s) (raise b k t) := by
  obtain ⟨regs, notice, root, progress, reader⟩ := h
  refine ⟨regs, ?_, root, progress, reader⟩
  simp only [Machine.raise, raisingOf, State.setNotice_notice, notice, root, progress, reader]

theorem EventsAlike.setFault {s t : State} (h : EventsAlike s t) (b : Raiser) (f : FaultBit) :
    EventsAlike (setFault b f s) (setFault b f t) := by
  have set : t.hasFault f = s.hasFault f := by rw [State.hasFault, State.hasFault, h.regs]
  unfold Machine.setFault
  rw [set]
  split
  · exact h
  · exact EventsAlike.raise (s := markFault f s) (t := markFault f t) ⟨by simp only [markFault, State.setRegs_regs, h.regs], h.notice, h.root,
      h.progress, h.reader⟩ b .fault

/-- While notices are disabled a raising leaves the unit (R180). -/
theorem raise_notice_of_disabled (b : Raiser) (k : NoticeKind) {s : State} (h : s.notice.enable = false) :
    (raise b k s).notice = s.notice := by
  simp [raise, NoticeUnit.raise, h]

theorem setFault_notice_of_disabled (b : Raiser) (f : FaultBit) {s : State} (h : s.notice.enable = false) :
    (setFault b f s).notice = s.notice := by
  rw [setFault_notice, raise_notice_of_disabled b .fault h, ite_self]

/-! ### The load -/

theorem faultIf_regs (c : Bool) (f : FaultBit) (s : State) :
    (faultIf c f s).regs = if c then s.regs.withFault f else s.regs := by
  unfold faultIf
  split
  · exact setFault_regs _ _ _
  · rfl

/-- The end of a load, as it is taken: the values installed, then the two bits of FAULT (R192). -/
theorem loadEnds_eq (answers : Bool) {s : State} (h : s.engine.state = .loading) : loadEnds answers s =
    faultIf (fuseDisagrees s.prot.fuseBlown (loadedFrom answers s).state) .protectLoad
      (faultIf (imageOfBytes (flashRead answers s)).isNone .store (install (loadedFrom answers s) s)) := by
  rw [loadEnds, if_pos h]
  rfl

/-- FAULT after a load (R192). -/
theorem loadEnds_regs (answers : Bool) {s : State} (h : s.engine.state = .loading) :
    let first := if (imageOfBytes (flashRead answers s)).isNone then s.regs.withFault .store else s.regs
    (loadEnds answers s).regs =
      if fuseDisagrees s.prot.fuseBlown (loadedFrom answers s).state then first.withFault .protectLoad else first := by
  intro first
  have regs : (install (loadedFrom answers s) s).regs = s.regs := install_same s _ .regs (by decide)
  rw [loadEnds_eq answers h, faultIf_regs, faultIf_regs, regs]

theorem EventsAlike.faultIf {s t : State} (h : EventsAlike s t) (c : Bool) (f : FaultBit) :
    EventsAlike (faultIf c f s) (faultIf c f t) := by
  unfold Machine.faultIf
  split
  · exact h.setFault _ _
  · exact h

/-- The notice unit after a load: the store's events, as on the state before it (R162, R192). -/
theorem loadEnds_notice (answers : Bool) {s : State} (h : s.engine.state = .loading) :
    (loadEnds answers s).notice = (faultIf (fuseDisagrees s.prot.fuseBlown (loadedFrom answers s).state) .protectLoad
      (faultIf (imageOfBytes (flashRead answers s)).isNone .store s)).notice := by
  have installed : EventsAlike s (install (loadedFrom answers s) s) := .of_same (install_same s _) (by decide)
  rw [loadEnds_eq answers h]
  exact ((installed.faultIf _ _).faultIf _ _).notice

theorem fuseDisagrees_eq_true_iff (blown : Bool) (st : ProtState) :
    fuseDisagrees blown st = true ↔ ¬ blown = decide (st = .isFixed) := by
  rw [fuseDisagrees, bne_iff_ne]

theorem fuseDisagrees_eq_false_iff (blown : Bool) (st : ProtState) :
    fuseDisagrees blown st = false ↔ blown = decide (st = .isFixed) := by
  rw [fuseDisagrees, bne_eq_false_iff_eq]

/-- An erased area holds no good image: its state byte is out of range (R189). -/
theorem imageOfBytes_erased : imageOfBytes (List.replicate 681 255) = none := by
  have state : imageState (field (List.replicate 681 255) 4 1) = none := rfl
  simp only [imageOfBytes, state]

theorem faultIf_notice_of_disabled (c : Bool) (f : FaultBit) {s : State} (h : s.notice.enable = false) :
    (faultIf c f s).notice = s.notice := by
  unfold faultIf
  split
  · exact setFault_notice_of_disabled _ _ h
  · rfl

/-- Settles O22: the values installed, and the two bits of FAULT with their events, for a good and for a bad image. -/
theorem loadInstallsImageOrDefaults : Obligations.LoadInstallsImageOrDefaults := by
  refine ⟨fun s answers settled loading => ?_, fun s answers settled awake => ?_, imageOfBytes_erased⟩
  · have installs := loadEnds_installs answers loading
    have sup : (loadEnds answers s).sup = (install (loadedFrom answers s) s).sup := installs .sup (by decide)
    have prot : (loadEnds answers s).prot = (install (loadedFrom answers s) s).prot := installs .prot (by decide)
    have store : (loadEnds answers s).store = (install (loadedFrom answers s) s).store := installs .store (by decide)
    have budget : (loadEnds answers s).budget = (install (loadedFrom answers s) s).budget := installs .budget (by decide)
    have tails : (loadEnds answers s).tails = (install (loadedFrom answers s) s).tails := installs .tails (by decide)
    have regs := loadEnds_regs answers loading
    have notice := loadEnds_notice answers loading
    have pickup : ∀ p : Fin 32, (loadEnds answers s).sup.pickups[p]
        = { s.sup.pickups[p] with ring := (loadedFrom answers s).rings[p] } := fun p => by simp [sup, install]
    refine ⟨loadEnds answers s, exec_of_settled settled _, loadEnds_same s answers, loadEnds_engine s answers loading, ?_, ?_, ?_, ?_, ?_, ?_,
      fun p => ?_, ?_, ?_, ?_, fun disabled => ?_, ?_⟩
    · rw [store]; rfl
    · rw [prot]; rfl
    · rw [prot]; rfl
    · rw [budget]; rfl
    · rw [tails]; rfl
    · rw [tails]; rfl
    · rw [pickup]
    · rw [sup]; simp [install]
    · rw [sup]; simp [install]
    · rw [regs]
      simp only [Regs.withFault]
      split <;> split <;> rfl
    · rw [notice, faultIf_notice_of_disabled _ _ (by rw [faultIf_notice_of_disabled _ _ disabled, disabled]),
        faultIf_notice_of_disabled _ _ disabled]
    · cases image : imageOfBytes (flashRead answers s) with
      | some i =>
        have loaded : loadedFrom answers s = i.loaded := by rw [loadedFrom, image]; rfl
        have held : i.loaded.state = i.state := rfl
        rw [image, loaded, held] at regs notice
        have read : imageOfBytes (if answers then s.store.flash else List.replicate 681 255) = some i := image
        rw [read]
        refine ⟨?_, ?_, fun p => ?_, ?_, ?_, ?_, ?_, ?_⟩
        · rw [budget, loaded]; rfl
        · rw [tails, loaded]; rfl
        · rw [pickup, loaded]; rfl
        · rw [store, loaded]; rfl
        · rw [prot, loaded]; rfl
        · rw [prot, loaded]; rfl
        · rw [regs]
          by_cases agrees : s.prot.fuseBlown = decide (i.state = .isFixed)
          · rw [if_pos agrees, (fuseDisagrees_eq_false_iff _ _).2 agrees]
            rfl
          · rw [if_neg agrees, (fuseDisagrees_eq_true_iff _ _).2 agrees]
            rfl
        · rw [notice]
          by_cases agrees : s.prot.fuseBlown = decide (i.state = .isFixed)
          · rw [if_pos agrees, (fuseDisagrees_eq_false_iff _ _).2 agrees]
            rfl
          · rw [if_neg agrees, (fuseDisagrees_eq_true_iff _ _).2 agrees]
            rfl
      | none =>
        have loaded : loadedFrom answers s = .defaults := by rw [loadedFrom, image]; rfl
        rw [image, loaded] at regs notice
        have read : imageOfBytes (if answers then s.store.flash else List.replicate 681 255) = none := image
        rw [read]
        refine ⟨fun e => ?_, fun k => ?_, fun p => ?_, ?_, ?_, ?_, ?_, ?_⟩
        · simp [budget, loaded, install, Loaded.defaults]
        · simp [tails, loaded, install, Loaded.defaults]
        · simp [pickup, loaded, Loaded.defaults, RingGroup.factory]
        · rw [store, loaded]; rfl
        · rw [prot, loaded]; rfl
        · have decided : (install Loaded.defaults s).prot.state = fuseState s.prot.fuseBlown .none := rfl
          rw [prot, loaded, decided]
          cases s.prot.fuseBlown
          · rfl
          · rfl
        · rw [regs]
          cases s.prot.fuseBlown
          · rfl
          · exact BitVec.or_assoc _ _ _
        · rw [notice]
          cases s.prot.fuseBlown
          · rfl
          · rfl
  · rw [exec_of_settled settled]
    simp only [act, loadEnds, if_neg awake]

end Sys2Proof.Machine
end

section
/-! Notices and the progress record in the words of the manual (R162, R172, R174, R179 to R182). -/

namespace Sys2Proof.Machine

/-! ### Raising -/

/-- A raising carries the writes in flight that its unit has issued before it (R181). -/
theorem raisingOf_eq (b : Raiser) (k : NoticeKind) (s : State) : raisingOf b k s =
    { kind := k
      after := if (b = .reader ∨ b = .stager ∨ b = .linkPort) ∧ s.progress.inFlight.isSome = true then some s.progress.seq
        else none
      longs := if b = .linkPort then
          (if (s.reader.storeCard.bind LongCard.outcome).isSome then [.store] else [])
            ++ (if (s.reader.snapCard.bind LongCard.outcome).isSome then [.snapshot] else [])
        else [] } := by
  have longs : [LongKind.store, .snapshot].filter s.reader.completes =
      (if (s.reader.storeCard.bind LongCard.outcome).isSome then [LongKind.store] else [])
        ++ (if (s.reader.snapCard.bind LongCard.outcome).isSome then [LongKind.snapshot] else []) := by
    simp only [List.filter_cons, List.filter_nil, Reader.completes, Reader.longCard]
    split
    · rfl
    · rfl
  have after : orderedAfter b s.progress =
      if (b = .reader ∨ b = .stager ∨ b = .linkPort) ∧ s.progress.inFlight.isSome = true then some s.progress.seq else none := by
    cases b <;> simp [orderedAfter, Raiser.publishes]
  rw [raisingOf, after, longsBefore, longs]

theorem raise_of_disabled {s : State} (b : Raiser) (k : NoticeKind) (h : s.notice.enable = false) : raise b k s = s := by
  simp only [raise, NoticeUnit.raise, if_pos h]
  rfl

section
variable {s : State} {b : Raiser} {k : NoticeKind} (enabled : s.notice.enable = true)
include enabled

theorem raise_of_pending (pends : s.notice.pending[vectorOf s.notice.vectorCode k].isSome = true) : raise b k s = s := by
  have kind : (raisingOf b k s).kind = k := rfl
  have on : ¬ s.notice.enable = false := by simp [enabled]
  simp only [raise, NoticeUnit.raise, if_neg on, kind, if_pos pends]
  rfl

/-- With no root, the vector masked or no room a raising makes its vector pending (R180, R181). -/
theorem raise_pends (free : s.notice.pending[vectorOf s.notice.vectorCode k] = none)
    (waits : s.root = none ∨ s.notice.mask.getLsbD (vectorOf s.notice.vectorCode k) = true ∨ 16 ≤ s.notice.queue.length) :
    raise b k s = s.setNotice
      { s.notice with pending := s.notice.pending.set (vectorOf s.notice.vectorCode k) (some (raisingOf b k s)) } := by
  have kind : (raisingOf b k s).kind = k := rfl
  have on : ¬ s.notice.enable = false := by simp [enabled]
  simp only [raise, NoticeUnit.raise, if_neg on, if_false, kind, free, Option.isSome_none, Bool.false_eq_true]
  cases root : s.root with
  | none => rfl
  | some r =>
    simp only []
    split
    · rfl
    · rename_i unmasked
      have full : 16 ≤ s.notice.queue.length := (waits.resolve_left (by simp [root])).resolve_left unmasked
      rw [NoticeUnit.post, if_neg (by simpa [NoticeUnit.hasRoom] using full)]

/-- With a root, the vector unmasked and room a raising posts its write, handed on where the link port is free (R180, R181). -/
theorem raise_posts {r : Root} (free : s.notice.pending[vectorOf s.notice.vectorCode k] = none) (root : s.root = some r)
    (unmasked : s.notice.mask.getLsbD (vectorOf s.notice.vectorCode k) = false) (room : s.notice.queue.length < 16) :
    raise b k s = s.setNotice (NoticeUnit.handOn { s.notice with
      queue := s.notice.queue ++ [{ addr := r.noticeAddr, data := r.noticeBase + (vectorOf s.notice.vectorCode k).val,
                                    raising := raisingOf b k s }] }) := by
  have kind : (raisingOf b k s).kind = k := rfl
  have on : ¬ s.notice.enable = false := by simp [enabled]
  simp only [raise, NoticeUnit.raise, if_neg on, if_false, kind, free, Option.isSome_none, Bool.false_eq_true, root,
    unmasked, NoticeUnit.post, NoticeUnit.hasRoom, room, decide_true, if_true]

end

/-- Settles O29: a raising by the unit's state, a set of a bit of FAULT, and the flush as `foldl_postPending` has it. -/
theorem raisingAndPending : Obligations.RaisingAndPending := by
  refine ⟨?_, rfl, rfl, fun b f s => ⟨rfl, setFault_hasFault b f s⟩, fun u o => ⟨rfl, ?_, rfl⟩, ?_⟩
  · intro b k s v x
    have raising : raisingOf b k s = x := raisingOf_eq b k s
    refine ⟨rfl, raise_of_disabled b k, fun enabled => raise_of_pending enabled, fun enabled free waits => ?_, ?_⟩
    · rw [raise_pends enabled free waits, raising]
    · intro r enabled free root unmasked room w
      rw [raise_posts enabled free root unmasked room, raising]
  · rintro (disabled | rfl)
    · exact flush_disabled o u disabled
    · exact flush_none u
  · intro u r enabled handed t out went
    have posted : t = [0, 1, 2, 3, 4, 5, 6, 7].foldl (NoticeUnit.postPending r) u := by
      simp only [t, NoticeUnit.flush, enabled, if_true]
    have listed : (u.goingOut [0, 1, 2, 3, 4, 5, 6, 7]).take u.room = went := rfl
    have flushed := foldl_postPending r [0, 1, 2, 3, 4, 5, 6, 7] u (by decide) handed
    rw [← posted, listed] at flushed
    clear_value t went
    exact flushed

/-! ### The end of a notice write -/

/-- What a notice write waits for, by the two long cards (R168, R181). -/
theorem noticeWaits_iff_in_flight (s : State) (w : NoticeWrite) : noticeWaits s w = true ↔
    (w.raising.after = some s.progress.seq ∧ s.progress.inFlight.isSome = true)
      ∨ (.store ∈ w.raising.longs ∧ (s.reader.storeCard.bind LongCard.outcome).isSome = true)
      ∨ (.snapshot ∈ w.raising.longs ∧ (s.reader.snapCard.bind LongCard.outcome).isSome = true) := by
  rw [noticeWaits_iff]
  refine or_congr_right ⟨?_, ?_⟩
  · rintro ⟨k, listed, flying⟩
    cases k with
    | store => exact .inl ⟨listed, flying⟩
    | snapshot => exact .inr ⟨listed, flying⟩
  · rintro (⟨listed, flying⟩ | ⟨listed, flying⟩)
    · exact ⟨.store, listed, flying⟩
    · exact ⟨.snapshot, listed, flying⟩

theorem noticeFailed_same (w : NoticeWrite) (s : State) : SameOutside [.regs, .notice] s (noticeFailed w s) := by
  unfold noticeFailed
  split
  · simp [sameOutside_iff]
  · exact setFault_same _ _ _

/-- A failed notice write sets FAULT.MEMORY, whatever it was a notice of (R181). -/
theorem noticeFailed_regs (w : NoticeWrite) (s : State) :
    (noticeFailed w s).regs = { s.regs with fault := s.regs.fault ||| 1#6 } := by
  unfold noticeFailed
  split
  · rfl
  · exact setFault_regs _ _ _

/-- It raises FAULT where the bit was clear, but for a FAULT notice (R181). -/
theorem noticeFailed_notice (w : NoticeWrite) (s : State) : (noticeFailed w s).notice =
    if w.raising.kind = .fault ∨ s.hasFault .memory = true then s.notice else (raise .notice .fault s).notice := by
  unfold noticeFailed
  by_cases fault : w.raising.kind = .fault
  · rw [if_pos fault, if_pos (.inl fault)]
    rfl
  · rw [if_neg fault, setFault_notice]
    simp only [fault, false_or]

/-- Settles O30: the end of the write handed over, and the queue going on after it. -/
theorem noticeWriteEnds : Obligations.NoticeWriteEnds := by
  intro s w settled handed waits
  have waiting : noticeWaits s w = true ↔ waits := noticeWaits_iff_in_flight s w
  refine ⟨fun wait ok => ?_, fun free => ?_⟩
  · rw [exec_of_settled settled]
    simp only [act, noticeEnded, handed, if_pos (waiting.2 wait)]
  · have goes : ∀ ok, act (.noticeWriteEnd ok) s =
        let u := if ok then land w.transfer (s.setNotice s.notice.ended) else noticeFailed w (s.setNotice s.notice.ended)
        u.setNotice (u.notice.goOn u.root) := by
      intro ok
      simp only [act, noticeEnded, handed, if_neg (fun wait => free (waiting.1 wait))]
    have failed := noticeFailed_same w (s.setNotice s.notice.ended)
    have root : (noticeFailed w (s.setNotice s.notice.ended)).root = s.root := failed .root (by decide)
    rw [exec_of_settled settled, exec_of_settled settled, goes, goes]
    refine ⟨rfl, _, rfl, ?_, ?_, ?_⟩
    · have ended : SameOutside [.regs, .notice] s (s.setNotice s.notice.ended) := by simp [sameOutside_iff]
      refine SameOutside.trans (ended.trans failed) ?_
      simp [sameOutside_iff]
    · exact noticeFailed_regs w (s.setNotice s.notice.ended)
    · show NoticeUnit.goOn (noticeFailed w (s.setNotice s.notice.ended)).root (noticeFailed w (s.setNotice s.notice.ended)).notice = _
      rw [root, noticeFailed_notice]
      rfl

/-! ### The progress record -/

theorem hostAddress_of_lt {a : Nat} (h : a < 2 ^ 64) : hostAddress a = a := if_pos h

/-- A write of bytes that end at the last address or before leaves each of them at its address, and every other byte (R6). -/
theorem read_putAll {a : Nat} {bs : List Byte} (m : HostMem) (h : a + bs.length ≤ 2 ^ 64) :
    (∀ i, i < bs.length → (m.putAll a bs).read (a + i) = bs[i]?)
      ∧ ∀ b, b < a ∨ a + bs.length ≤ b → (m.putAll a bs).read b = m.read b := by
  have address : ∀ i, i < bs.length → hostAddress (a + i) = a + i := fun i listed => hostAddress_of_lt (by omega)
  refine ⟨?_, fun b apart => HostMem.read_putAll_other bs m a b fun i listed => ?_⟩
  · clear address
    induction bs generalizing m a with
    | nil => simp
    | cons b bs ih =>
      have first : a < 2 ^ 64 := by rw [List.length_cons] at h; omega
      rw [List.length_cons] at h
      intro i listed
      cases i with
      | zero =>
        rw [HostMem.putAll, HostMem.read_putAll_other bs _ _ _ fun j below => ?_, hostAddress_of_lt first]
        · exact HostMem.read_put_same m a b
        · rw [hostAddress_of_lt (by omega)]
          omega
      | succ i =>
        have rest := ih (m.put (hostAddress a) b) (a := a + 1) (by omega) i (by simpa using listed)
        rw [HostMem.putAll, ← Nat.add_assoc, Nat.add_right_comm, rest, List.getElem?_cons_succ]
  · rw [address i listed]
    omega

/-- The bytes of a record laid out as fields of given widths and values. -/
def laid : List (Nat × Nat) → List Byte
  | [] => []
  | f :: fs => leBytes f.1 f.2 ++ laid fs

/-- The fields of a record laid out from an offset on, each with its offset, width and value. -/
def placedFrom : Nat → List (Nat × Nat) → List (Nat × Nat × Nat)
  | _, [] => []
  | o, f :: fs => (o, f.1, f.2) :: placedFrom (o + f.1) fs

theorem placedFrom_le {fs : List (Nat × Nat)} {o : Nat} {x : Nat × Nat × Nat} (h : x ∈ placedFrom o fs) : o ≤ x.1 := by
  induction fs generalizing o with
  | nil => cases h
  | cons f fs ih =>
    rcases List.mem_cons.mp h with rfl | h
    · exact le_refl _
    · exact Nat.le_of_add_right_le (ih h)

/-- A record laid out field by field holds each of its fields at its place (R6, R173). -/
theorem field_laid {fs : List (Nat × Nat)} {o : Nat} (ys : List Byte) {x : Nat × Nat × Nat} (h : x ∈ placedFrom o fs) :
    field (laid fs ++ ys) (x.1 - o) x.2.1 = x.2.2 % 256 ^ x.2.1 := by
  induction fs generalizing o with
  | nil => cases h
  | cons f fs ih =>
    rw [laid, List.append_assoc]
    rcases List.mem_cons.mp h with rfl | h
    · simpa using field_leBytes_append f.1 f.2 (laid fs ++ ys)
    · have past := placedFrom_le h
      rw [field_past_leBytes _ _ _ (by omega), Nat.sub_sub]
      exact ih h

theorem laid_length (fs : List (Nat × Nat)) : (laid fs).length = (fs.map Prod.fst).sum := by
  induction fs with
  | nil => rfl
  | cons f fs ih => simp [laid, ih]

theorem leBytes_zero (n : Nat) : leBytes n 0 = zeros n := by
  induction n with
  | zero => rfl
  | succ n ih => rw [leBytes, Nat.zero_div, ih]; rfl

/-- The fields of the progress record in order, with their widths (R174). -/
def progressFields (s : State) (seq : Nat) : List (Nat × Nat) :=
  [(1, s.engine.state.code), (1, s.reader.state.code), (2, s.reader.nextTag), (4, s.reader.cardsFinished),
    (2, s.stager.cueCounter), (2, s.stager.lastCue), (1, s.stager.goSource.code), (1, s.stager.goResult.code),
    (1, s.stager.goDest), (1, s.stager.standby.code), (2, s.stager.standby.items.length), (2, s.table.length),
    (2, s.stager.fade.cue), (2, s.stager.fade.remaining), (4, s.stager.superseded), (4, s.stager.stray), (4, s.cue.bounced),
    (4, s.meter.skips), (1, s.prot.state.code), (1, levelCode s.cue.filtered), (1, s.store.state.code), (1, 0), (4, seq),
    (16, 0)]

theorem progressBytes_eq (s : State) (seq : Nat) : progressBytes s seq = laid (progressFields s seq) := by
  unfold progressBytes
  simp only [progressFields, laid, List.append_assoc, List.append_nil, leBytes_zero]

theorem progressBytes_length (s : State) (seq : Nat) : (progressBytes s seq).length = 64 := by
  rw [progressBytes_eq, laid_length]
  unfold progressFields
  simp only [List.map_cons, List.map_nil, List.sum_cons, List.sum_nil, Nat.reduceAdd]

theorem progressBytes_fields (s : State) (seq : Nat) {x : Nat × Nat × Nat} (listed : x ∈ placedFrom 0 (progressFields s seq)) :
    field (progressBytes s seq) x.1 x.2.1 = x.2.2 % 256 ^ x.2.1 := by
  have whole := field_laid [] listed
  rwa [List.append_nil, ← progressBytes_eq] at whole

/-- Settles O31: the write's end and an occasion by their definitions, the bytes in memory by `read_putAll`, and the fields by the layout of the record. -/
theorem progressRecordWrites : Obligations.ProgressRecordWrites := by
  unfold Obligations.ProgressRecordWrites
  refine ⟨?_, ?_, fun m a bs h => read_putAll m h, ?_, fun s seq => ⟨?_, fun x listed => ?_⟩⟩
  · intro s x settled inFlight done next
    have goes : ∀ ok, exec (.progressWriteEnd ok) s = .next (progressEnded ok s) := fun ok => exec_of_settled settled _
    refine ⟨?_, ?_⟩ <;> rw [goes, progressEnded, inFlight] <;> rfl
  · intro s
    refine ⟨fun root => ?_, fun r x root inFlight => ?_, fun r root inFlight => ?_⟩
    · rw [progressOccasion, root]
    · rw [progressOccasion, root, inFlight]; rfl
    · rw [progressOccasion, root, inFlight]; rfl
  · refine ⟨rfl, rfl, rfl, rfl, rfl, fun x => ?_, fun x => ?_⟩ <;> cases x <;> rfl
  · exact progressBytes_length s seq
  · exact progressBytes_fields s seq listed

end Sys2Proof.Machine
end

section
/-! The word clock and the lanes: a loss, a return, and one period's judgement of each lane (R91 to R94). -/

namespace Sys2Proof.Machine

/-! ### The clock -/

/-- Settles O32: the mix engine at the loss, FAULT.CLOCK, and then the end of STOPPING where its condition is met. -/
theorem clockLossAbandonsTheBlock : Obligations.ClockLossAbandonsTheBlock := by
  intro s settled
  rw [exec_of_settled settled]
  refine ⟨fun absent => ?_, fun present => ?_⟩
  · show Host.Outcome.next (loseClock s) = _
    rw [loseClock, if_neg (by simp [absent])]
  · refine ⟨loseClock s, rfl, ?_⟩
    have lost : SameOutside [.mix] s (s.setMix (s.mix.lose (decide (s.engine.state = .loading)))) := by simp [sameOutside_iff]
    have ends : loseClock s = finishStopping (setFault .mix .clock (s.setMix (s.mix.lose (decide (s.engine.state = .loading))))) :=
      if_pos present
    have faulted : SameOutside [.mix, .regs, .notice] s
        (setFault .mix .clock (s.setMix (s.mix.lose (decide (s.engine.state = .loading))))) :=
      (lost.mono (by decide)).trans (SameOutside.mono (setFault_same _ _ _) (by decide))
    have alike := (EventsAlike.of_same lost (by decide)).setFault .mix .clock
    have finished := finishStopping_same (setFault .mix .clock (s.setMix (s.mix.lose (decide (s.engine.state = .loading)))))
    have engine : (setFault .mix .clock (s.setMix (s.mix.lose (decide (s.engine.state = .loading))))).engine = s.engine := by simp
    have reader : (setFault .mix .clock (s.setMix (s.mix.lose (decide (s.engine.state = .loading))))).reader = s.reader := by simp
    have mix : (setFault .mix .clock (s.setMix (s.mix.lose (decide (s.engine.state = .loading))))).mix
        = s.mix.lose (decide (s.engine.state = .loading)) := by simp
    have regs := setFault_regs .mix .clock (s.setMix (s.mix.lose (decide (s.engine.state = .loading))))
    rw [ends]
    generalize setFault .mix .clock (s.setMix (s.mix.lose (decide (s.engine.state = .loading)))) = u at *
    have low : u.regs.exchangeLow = s.regs.exchangeLow := by rw [regs]; rfl
    have high : u.regs.exchangeHigh = s.regs.exchangeHigh := by rw [regs]; rfl
    refine ⟨?_, ?_, ?_, ?_, ?_⟩
    · rw [finished .mix (by decide), mix, Mix.lose]
      simp only [decide_eq_true_eq]
    · rw [finished .regs (by decide), regs]
      rfl
    · rw [finished .notice (by decide), alike.notice]
    · rw [finishStopping_eq, engine, reader, mix]
      by_cases met : s.engine.state = .stopping ∧ s.reader.state = .off
      · rw [if_pos ⟨met.1, met.2, .inl rfl⟩, if_pos met, State.setEngine_engine, low, high]
      · rw [if_neg fun h => met ⟨h.1, h.2.1⟩, if_neg met, engine]
    · exact (faulted.mono (by decide)).trans (finished.mono (by decide))

/-- Settles O33: the return of the clock by its definition. -/
theorem clockReturnClearsHistories : Obligations.ClockReturnClearsHistories := by
  intro s settled
  rw [exec_of_settled settled]
  rfl

/-! ### One lane in one period -/

/-- A lane that is LOCKED, or has earned its lock, misses its marker. -/
def Mix.Misses (m : Mix) (markers : BitVec 4) (l : Fin 4) : Prop :=
  (m.locks[l] = true ∨ 48 ≤ m.lockRun[l]) ∧ markers.getLsbD l = false

theorem Mix.found_of_due {m : Mix} {markers : BitVec 4} {l : Fin 4} (h : ¬ m.Misses markers l)
    (due : m.locks[l] = true ∨ 48 ≤ m.lockRun[l]) : markers.getLsbD l = true := by
  by_contra missing
  exact h ⟨due, by simpa only [Bool.not_eq_true] using missing⟩

theorem lockReady_of_locked {m : Mix} {l : Fin 4} (locked : m.locks[l] = true) : m.lockReady l = false := by
  rw [Mix.lockReady, locked]
  rfl

theorem lockReady_of_earned {m : Mix} {l : Fin 4} (unlocked : m.locks[l] = false) (earned : 48 ≤ m.lockRun[l]) :
    m.lockReady l = true := by
  rw [Mix.lockReady, unlocked, decide_eq_true earned]
  rfl

theorem lockReady_of_short {m : Mix} {l : Fin 4} (short : m.lockRun[l] < 48) : m.lockReady l = false := by
  rw [Mix.lockReady, decide_eq_false (by omega), Bool.and_false]

theorem lockLane_locks (l : Fin 4) (m : Mix) : (m.lockLane l).locks[l] = true := Vector.getElem_set_self _

theorem unlockLane_lockLane (l : Fin 4) (m : Mix) : (m.lockLane l).unlockLane l = m.unlockLane l := by
  simp only [Mix.lockLane, Mix.unlockLane, Vector.set_set]

theorem judgeLane_of_missing {markers : BitVec 4} {s : State} {l : Fin 4} (h : s.mix.Misses markers l) :
    judgeLane markers s l = setFault .mix .lane (s.setMix (s.mix.unlockLane l)) := by
  obtain ⟨due, missing⟩ := h
  cases locked : s.mix.locks[l] with
  | true => simp only [judgeLane, lockReady_of_locked locked, Bool.false_eq_true, if_false, locked, if_true, missing, loseLane]
  | false =>
    have earned : 48 ≤ s.mix.lockRun[l] := by simpa only [locked, Bool.false_eq_true, false_or] using due
    simp only [judgeLane, lockReady_of_earned locked earned, Bool.false_eq_true, if_false, if_true, State.setMix_mix,
      lockLane_locks, missing, loseLane, unlockLane_lockLane]
    rfl

theorem judgeLane_of_locked {markers : BitVec 4} {s : State} {l : Fin 4} (locked : s.mix.locks[l] = true)
    (found : markers.getLsbD l = true) : judgeLane markers s l = s := by
  simp only [judgeLane, lockReady_of_locked locked, Bool.false_eq_true, if_false, locked, if_true, found]

theorem judgeLane_of_earned {markers : BitVec 4} {s : State} {l : Fin 4} (unlocked : s.mix.locks[l] = false)
    (earned : 48 ≤ s.mix.lockRun[l]) (found : markers.getLsbD l = true) :
    judgeLane markers s l = s.setMix (s.mix.lockLane l) := by
  simp only [judgeLane, lockReady_of_earned unlocked earned, if_true, State.setMix_mix, lockLane_locks, found]

theorem judgeLane_of_acquiring {markers : BitVec 4} {s : State} {l : Fin 4} (unlocked : s.mix.locks[l] = false)
    (short : s.mix.lockRun[l] < 48) : judgeLane markers s l =
      s.setMix { s.mix with lockRun := s.mix.lockRun.set l (if markers.getLsbD l then s.mix.lockRun[l] + 1 else 0) } := by
  have counted : min 48 (s.mix.lockRun[l] + 1) = s.mix.lockRun[l] + 1 := by omega
  simp only [judgeLane, lockReady_of_short short, Bool.false_eq_true, if_false, unlocked, counted]

/-- What one period makes of one lane, and that it leaves the others. -/
structure LaneJudged (markers : BitVec 4) (s t : State) (l : Fin 4) : Prop where
  lock : t.mix.locks[l] = (markers.getLsbD l && (s.mix.locks[l] || decide (48 ≤ s.mix.lockRun[l])))
  run : s.mix.locks[l] = false → s.mix.lockRun[l] < 48 →
    t.mix.lockRun[l] = if markers.getLsbD l then s.mix.lockRun[l] + 1 else 0
  others : ∀ k : Fin 4, k ≠ l → t.mix.locks[k] = s.mix.locks[k] ∧ t.mix.lockRun[k] = s.mix.lockRun[k]

theorem Vector.getElem_set_other {α : Type} {n : Nat} (v : Vector α n) {l k : Fin n} (h : k ≠ l) (x : α) :
    (v.set l x)[k] = v[k] := Vector.getElem_set_ne _ _ fun same => h (Fin.ext same.symm)

theorem judgeLane_judged (markers : BitVec 4) (s : State) (l : Fin 4) : LaneJudged markers s (judgeLane markers s l) l := by
  have others_unlock : ∀ k : Fin 4, k ≠ l → (s.mix.unlockLane l).locks[k] = s.mix.locks[k] ∧ (s.mix.unlockLane l).lockRun[k] = s.mix.lockRun[k] :=
    fun k apart => ⟨Vector.getElem_set_other _ apart _, Vector.getElem_set_other _ apart _⟩
  by_cases misses : s.mix.Misses markers l
  · rw [judgeLane_of_missing misses]
    obtain ⟨due, missing⟩ := misses
    refine ⟨?_, fun unlocked short => ?_, by simpa only [setFault_mix, State.setMix_mix] using others_unlock⟩
    · rw [missing, Bool.false_and, setFault_mix]
      exact Vector.getElem_set_self _
    · rw [unlocked] at due
      exact absurd due (by simpa using short)
  · cases locked : s.mix.locks[l] with
    | true =>
      have found : markers.getLsbD l = true := Mix.found_of_due misses (.inl locked)
      rw [judgeLane_of_locked locked found]
      exact ⟨by rw [locked, found]; rfl, fun unlocked => absurd locked (by simp [unlocked]), fun _ _ => ⟨rfl, rfl⟩⟩
    | false =>
      by_cases earned : 48 ≤ s.mix.lockRun[l]
      · have found : markers.getLsbD l = true := Mix.found_of_due misses (.inr earned)
        rw [judgeLane_of_earned locked earned found]
        refine ⟨?_, fun _ short => absurd short (by omega), fun k apart => ⟨Vector.getElem_set_other _ apart _, Vector.getElem_set_other _ apart _⟩⟩
        rw [found, decide_eq_true earned, Bool.or_true]
        exact Vector.getElem_set_self _
      · rw [judgeLane_of_acquiring locked (by omega)]
        refine ⟨?_, fun _ _ => Vector.getElem_set_self _, fun k apart => ⟨rfl, Vector.getElem_set_other _ apart _⟩⟩
        rw [locked, decide_eq_false earned, Bool.or_false, Bool.and_false]
        exact locked

/-- FAULT.LANE is set where the lane misses its marker, and nothing is raised elsewhere (R94). -/
theorem judgeLane_events (markers : BitVec 4) (s : State) (l : Fin 4) :
    (s.mix.Misses markers l → EventsAlike (setFault .mix .lane s) (judgeLane markers s l))
      ∧ (¬ s.mix.Misses markers l → EventsAlike s (judgeLane markers s l)) := by
  have alike : ∀ m : Mix, EventsAlike s (s.setMix m) := fun m => .of_same (ps := [.mix]) (by simp [sameOutside_iff]) (by decide)
  refine ⟨fun misses => ?_, fun misses => ?_⟩
  · rw [judgeLane_of_missing misses]
    exact (alike _).setFault _ _
  · cases locked : s.mix.locks[l] with
    | true =>
      rw [judgeLane_of_locked locked (Mix.found_of_due misses (.inl locked))]
      exact ⟨rfl, rfl, rfl, rfl, rfl⟩
    | false =>
      by_cases earned : 48 ≤ s.mix.lockRun[l]
      · rw [judgeLane_of_earned locked earned (Mix.found_of_due misses (.inr earned))]
        exact alike _
      · rw [judgeLane_of_acquiring locked (by omega)]
        exact alike _

/-! ### The four lanes in one period -/

/-- Judging the lanes of a list leaves the others, and judges each of its own as the state before it has it. -/
theorem foldl_judgeLane (markers : BitVec 4) (ls : List (Fin 4)) (distinct : ls.Nodup) (s : State) :
    (∀ l ∈ ls, (ls.foldl (judgeLane markers) s).mix.locks[l]
          = (markers.getLsbD l && (s.mix.locks[l] || decide (48 ≤ s.mix.lockRun[l])))
        ∧ (s.mix.locks[l] = false → s.mix.lockRun[l] < 48 →
          (ls.foldl (judgeLane markers) s).mix.lockRun[l] = if markers.getLsbD l then s.mix.lockRun[l] + 1 else 0))
      ∧ ∀ l ∉ ls, (ls.foldl (judgeLane markers) s).mix.locks[l] = s.mix.locks[l]
        ∧ (ls.foldl (judgeLane markers) s).mix.lockRun[l] = s.mix.lockRun[l] := by
  induction ls generalizing s with
  | nil => exact ⟨fun _ listed => absurd listed List.not_mem_nil, fun _ _ => ⟨rfl, rfl⟩⟩
  | cons k ls ih =>
    obtain ⟨fresh, distinct⟩ := List.nodup_cons.mp distinct
    obtain ⟨own, rest⟩ := ih distinct (judgeLane markers s k)
    have judged := judgeLane_judged markers s k
    refine ⟨fun l listed => ?_, fun l absent => ?_⟩
    · rcases List.mem_cons.mp listed with rfl | listed
      · obtain ⟨lock, run⟩ := rest l fresh
        rw [List.foldl_cons, lock, run]
        exact ⟨judged.lock, judged.run⟩
      · obtain ⟨lock, run⟩ := judged.others l fun same => fresh (same ▸ listed)
        obtain ⟨lock_after, run_after⟩ := own l listed
        rw [lock, run] at lock_after run_after
        exact ⟨lock_after, run_after⟩
    · obtain ⟨apart, absent⟩ := not_or.mp (mt List.mem_cons.mpr absent)
      obtain ⟨lock, run⟩ := rest l absent
      obtain ⟨lock_before, run_before⟩ := judged.others l apart
      exact ⟨lock.trans lock_before, run.trans run_before⟩

theorem EventsAlike.trans {s t u : State} (h : EventsAlike s t) (k : EventsAlike t u) : EventsAlike s u :=
  ⟨k.regs.trans h.regs, k.notice.trans h.notice, k.root.trans h.root, k.progress.trans h.progress, k.reader.trans h.reader⟩

theorem setFault_of_set {b : Raiser} {f : FaultBit} {s : State} (h : s.hasFault f = true) : setFault b f s = s := by
  rw [setFault, if_pos h]

/-- A bit of FAULT set twice raises FAULT once (R162). -/
theorem setFault_setFault (b : Raiser) (f : FaultBit) (s : State) : setFault b f (setFault b f s) = setFault b f s :=
  setFault_of_set (by simp)

/-- Where some lane of the list misses its marker FAULT.LANE is set once, and elsewhere nothing is raised (R94). -/
theorem foldl_judgeLane_events (markers : BitVec 4) (ls : List (Fin 4)) (distinct : ls.Nodup) (s : State) :
    ((∃ l ∈ ls, s.mix.Misses markers l) → EventsAlike (setFault .mix .lane s) (ls.foldl (judgeLane markers) s))
      ∧ ((∀ l ∈ ls, ¬ s.mix.Misses markers l) → EventsAlike s (ls.foldl (judgeLane markers) s)) := by
  induction ls generalizing s with
  | nil => exact ⟨fun ⟨_, listed, _⟩ => absurd listed List.not_mem_nil, fun _ => ⟨rfl, rfl, rfl, rfl, rfl⟩⟩
  | cons k ls ih =>
    obtain ⟨fresh, distinct⟩ := List.nodup_cons.mp distinct
    obtain ⟨some_misses, none_misses⟩ := ih distinct (judgeLane markers s k)
    obtain ⟨first_misses, first_found⟩ := judgeLane_events markers s k
    have misses_iff : ∀ l ∈ ls, (judgeLane markers s k).mix.Misses markers l ↔ s.mix.Misses markers l := fun l listed => by
      obtain ⟨lock, run⟩ := (judgeLane_judged markers s k).others l fun same => fresh (same ▸ listed)
      rw [Mix.Misses, Mix.Misses, lock, run]
    refine ⟨fun ⟨l, listed, misses⟩ => ?_, fun none => ?_⟩
    · by_cases later : ∃ l ∈ ls, s.mix.Misses markers l
      · obtain ⟨m, listed, misses⟩ := later
        have rest := some_misses ⟨m, listed, (misses_iff m listed).mpr misses⟩
        by_cases first : s.mix.Misses markers k
        · have both := (first_misses first).setFault .mix .lane
          rw [setFault_setFault] at both
          exact both.trans rest
        · exact ((first_found first).setFault _ _).trans rest
      · have rest := none_misses fun m listed misses => later ⟨m, listed, (misses_iff m listed).mp misses⟩
        rcases List.mem_cons.mp listed with rfl | listed
        · exact (first_misses misses).trans rest
        · exact absurd ⟨l, listed, misses⟩ later
    · exact (first_found (none k List.mem_cons_self)).trans
        (none_misses fun l listed misses => none l (List.mem_cons_of_mem _ listed) ((misses_iff l listed).mp misses))

/-- The lanes in the order in which a period judges them. -/
def laneOrder : List (Fin 4) := [0, 1, 2, 3]

theorem laneOrder_nodup : laneOrder.Nodup := by decide

theorem mem_laneOrder : ∀ l, l ∈ laneOrder := by decide

theorem judgeLanes_eq (markers : BitVec 4) (s : State) : judgeLanes markers s = laneOrder.foldl (judgeLane markers) s := rfl

theorem judgeLanes_lane (markers : BitVec 4) (s : State) (l : Fin 4) :
    (judgeLanes markers s).mix.locks[l] = (markers.getLsbD l && (s.mix.locks[l] || decide (48 ≤ s.mix.lockRun[l])))
      ∧ (s.mix.locks[l] = false → s.mix.lockRun[l] < 48 →
        (judgeLanes markers s).mix.lockRun[l] = if markers.getLsbD l then s.mix.lockRun[l] + 1 else 0) := by
  rw [judgeLanes_eq]
  exact (foldl_judgeLane markers laneOrder laneOrder_nodup s).1 l (mem_laneOrder l)

theorem judgeLanes_of_missing (markers : BitVec 4) (s : State) (h : ∃ l, s.mix.Misses markers l) :
    EventsAlike (setFault .mix .lane s) (judgeLanes markers s) := by
  obtain ⟨l, misses⟩ := h
  rw [judgeLanes_eq]
  exact (foldl_judgeLane_events markers laneOrder laneOrder_nodup s).1 ⟨l, mem_laneOrder l, misses⟩

theorem judgeLanes_of_found (markers : BitVec 4) (s : State) (h : ¬ ∃ l, s.mix.Misses markers l) :
    EventsAlike s (judgeLanes markers s) := by
  rw [judgeLanes_eq]
  exact (foldl_judgeLane_events markers laneOrder laneOrder_nodup s).2 fun l _ misses => h ⟨l, misses⟩

/-- Settles O34: the two commands by their definitions, and the period's judgement lane by lane. -/
theorem lanesLockAndLose : Obligations.LanesLockAndLose := by
  unfold Obligations.LanesLockAndLose
  refine ⟨fun s l settled present => ?_, ?_⟩
  · have locks : exec (.laneLock l) s = .next (if s.processes && s.mix.lockReady l then s.setMix (s.mix.lockLane l) else s) :=
      exec_of_settled settled _
    have loses : exec (.laneLoss l) s = .next (if s.mix.clock && s.mix.locks[l] then loseLane l s else s) := exec_of_settled settled _
    rw [locks, loses]
    refine ⟨fun awake unlocked earned => ?_, fun short => ?_, fun locked => ?_, fun unlocked => ?_⟩
    · rw [if_pos (by simp only [State.processes, present, awake, lockReady_of_earned unlocked earned, ne_eq, not_false_eq_true,
        decide_true, Bool.and_self])]
      rfl
    · rw [lockReady_of_short short, Bool.and_false]
      rfl
    · have alike := (EventsAlike.of_same (s := s) (t := s.setMix (s.mix.unlockLane l)) (ps := [.mix]) (by simp [sameOutside_iff])
        (by decide)).setFault .mix .lane
      rw [present, locked]
      refine ⟨loseLane l s, rfl, by simp [loseLane, Mix.unlockLane], ?_, alike.notice, loseLane_same s l⟩
      exact setFault_regs _ _ _
    · rw [unlocked, Bool.and_false]
      rfl
  · intro s m missed
    refine ⟨judgeLanes_lane m s, fun misses => ?_, fun found => ?_⟩
    · have alike := judgeLanes_of_missing m s misses
      have lane := setFault_regs .mix .lane s
      rw [← alike.regs] at lane
      exact ⟨lane, alike.notice⟩
    · have alike := judgeLanes_of_found m s found
      exact ⟨alike.regs, alike.notice⟩

end Sys2Proof.Machine
end

section
/-! One sample: the block's start values, the histories, the sums and the measures (R90, R95 to R100, R106, R107). -/

namespace Sys2Proof.Machine

/-! ### The lanes of the mix engine in one period -/

/-- What one period makes of one lane's lock and of its count, on the mix engine alone (R93). -/
def Mix.judge (markers : BitVec 4) (m : Mix) (l : Fin 4) : Mix :=
  { m with
    locks := m.locks.set l (markers.getLsbD l && (m.locks[l] || decide (48 ≤ m.lockRun[l])))
    lockRun := m.lockRun.set l (if markers.getLsbD l then
        (if m.locks[l] then m.lockRun[l] else if 48 ≤ m.lockRun[l] then 0 else m.lockRun[l] + 1)
      else 0) }

theorem Vector.set_same {α : Type} {n : Nat} (v : Vector α n) (l : Fin n) : v.set l v[l] = v := Vector.set_getElem_self _

theorem judgeLane_mix (markers : BitVec 4) (s : State) (l : Fin 4) : (judgeLane markers s l).mix = s.mix.judge markers l := by
  by_cases misses : s.mix.Misses markers l
  · rw [judgeLane_of_missing misses, setFault_mix, State.setMix_mix, Mix.unlockLane, Mix.judge, misses.2]
    rfl
  · cases locked : s.mix.locks[l] with
    | true =>
      have found := Mix.found_of_due misses (.inl locked)
      rw [judgeLane_of_locked locked found, Mix.judge, found]
      simp only [Bool.true_and, locked, Bool.true_or, if_true]
      rw [Vector.set_same, ← locked, Vector.set_same]
    | false =>
      by_cases earned : 48 ≤ s.mix.lockRun[l]
      · have found := Mix.found_of_due misses (.inr earned)
        rw [judgeLane_of_earned locked earned found, Mix.judge, found]
        simp only [Bool.true_and, locked, Bool.false_or, if_true, decide_eq_true earned, if_pos earned, Bool.false_eq_true, if_false]
        rfl
      · rw [judgeLane_of_acquiring locked (by omega), Mix.judge, decide_eq_false earned, locked]
        simp only [Bool.or_false, Bool.and_false, if_neg earned, Bool.false_eq_true, if_false, State.setMix_mix]
        rw [← locked, Vector.set_same]

theorem judgeLanes_mix (markers : BitVec 4) (s : State) :
    (judgeLanes markers s).mix = laneOrder.foldl (Mix.judge markers) s.mix := by
  rw [judgeLanes_eq]
  induction laneOrder generalizing s with
  | nil => rfl
  | cons l ls ih => rw [List.foldl_cons, List.foldl_cons, ih, judgeLane_mix]

/-- The lanes' judgement neither reads nor changes anything of the mix engine but locks and counts. -/
theorem foldl_judge (markers : BitVec 4) (ls : List (Fin 4)) (m n : Mix) (locks : n.locks = m.locks) (run : n.lockRun = m.lockRun) :
    ls.foldl (Mix.judge markers) n = { n with
      locks := (ls.foldl (Mix.judge markers) m).locks
      lockRun := (ls.foldl (Mix.judge markers) m).lockRun } := by
  induction ls generalizing m n with
  | nil => simp only [List.foldl_nil, ← locks, ← run]
  | cons l ls ih =>
    rw [List.foldl_cons, List.foldl_cons, ih (m.judge markers l) (n.judge markers l)]
    · rfl
    · simp only [Mix.judge, locks, run]
    · simp only [Mix.judge, locks, run]

theorem judgeLanes_mix_eq (markers : BitVec 4) {s t : State} (locks : t.mix.locks = s.mix.locks) (run : t.mix.lockRun = s.mix.lockRun) :
    (judgeLanes markers t).mix = { t.mix with
      locks := (judgeLanes markers s).mix.locks, lockRun := (judgeLanes markers s).mix.lockRun } := by
  rw [judgeLanes_mix, judgeLanes_mix, foldl_judge markers laneOrder s.mix t.mix locks run]

/-- The judgement raises the same on states that are one to an event. -/
theorem judgeLanes_alike (markers : BitVec 4) {s t : State} (alike : EventsAlike s t) (locks : t.mix.locks = s.mix.locks)
    (run : t.mix.lockRun = s.mix.lockRun) :
    (judgeLanes markers t).regs = (judgeLanes markers s).regs ∧ (judgeLanes markers t).notice = (judgeLanes markers s).notice := by
  have misses_iff : (∃ l, t.mix.Misses markers l) ↔ ∃ l, s.mix.Misses markers l := by simp only [Mix.Misses, locks, run]
  by_cases misses : ∃ l, s.mix.Misses markers l
  · have before := judgeLanes_of_missing markers s misses
    have after := (alike.setFault .mix .lane).trans (judgeLanes_of_missing markers t (misses_iff.mpr misses))
    exact ⟨after.regs.trans before.regs.symm, after.notice.trans before.notice.symm⟩
  · have before := judgeLanes_of_found markers s misses
    have after := alike.trans (judgeLanes_of_found markers t (mt misses_iff.mp misses))
    exact ⟨after.regs.trans before.regs.symm, after.notice.trans before.notice.symm⟩

/-! ### The block's start -/

theorem Pickup.factor_of_heard {p : Pickup} (h : p.state = .live ∨ p.state = .ringing) : p.factor = p.trim * p.muteGain / 256 := by
  rcases h with h | h <;> rw [Pickup.factor, h]

theorem Pickup.factor_of_unheard {p : Pickup} (h : p.state = .disabled ∨ p.state = .silent) : p.factor = 0 := by
  rcases h with h | h <;> rw [Pickup.factor, h]

/-! ### Sums -/

/-- The mix sum reads the two histories alone. -/
theorem mixSum_congr {m n : Mix} (pickups : n.pickupHist = m.pickupHist) (tails : n.tailHist = m.tailHist) (test : Key → Bool)
    (es : List MixEntry) : mixSum n test es = mixSum m test es := by
  simp only [mixSum, sourceSample, pickups, tails]

/-- A sum into a tail reads the pickup histories alone (R5). -/
theorem mixSum_into_tail {m n : Mix} (pickups : n.pickupHist = m.pickupHist) (k : Fin 16) (es : List MixEntry) :
    mixSum n (fun x => decide (destTail x = some k)) es = mixSum m (fun x => decide (destTail x = some k)) es := by
  rw [mixSum, mixSum]
  congr 1
  refine List.map_congr_left fun e listed => ?_
  obtain ⟨_, into⟩ := List.mem_filter.mp listed
  obtain ⟨key, delay, gain⟩ := e
  cases key with
  | pickupToEmitter p e => cases of_decide_eq_true into
  | pickupToTail p t => simp only [sourceSample, pickups]
  | tailToEmitter t e => cases of_decide_eq_true into

theorem sounds_eq (x : EngineState) : x.sounds = decide (x = .running ∨ x = .stopping) := by cases x <;> rfl

theorem roundSum_bounds (acc : Int) : roundSum acc * 16384 ≤ acc + 8192 ∧ acc + 8192 < (roundSum acc + 1) * 16384 := by
  rw [roundSum, Int.fdiv_eq_ediv_of_nonneg _ (by decide)]
  omega

theorem saturate_eq (x : Int) : saturate x = max (-8388608) (min 8388607 x) := by
  have low : minSample = -8388608 := rfl
  have high : maxSample = 8388607 := rfl
  unfold saturate
  split
  · omega
  · split <;> omega

theorem outputLanes_of_sent {m : Mix} {f : Frame} (h : m.lanesOut = some f) {k : Fin 6} {j : Fin 16} {e : Fin 96}
    (at_channel : e.val = 16 * k.val + j.val) : m.outputLanes.map (fun o => o[k][j]) = some (BitVec.ofInt 24 f[e]) := by
  have emitter : laneEmitter k j = e := Fin.ext at_channel.symm
  rw [Mix.outputLanes, h, Option.map_some, Option.map_some]
  simp only [Fin.getElem_fin, Vector.getElem_ofFn, Fin.eta, ← emitter]

/-! ### Taps (R105, R108) -/

theorem effectiveTaps_length (slots : Vector (Option Patch) 8) (d : Fin 40) : (effectiveTaps slots d).length = tapCount d := by
  rw [effectiveTaps, List.length_map, List.length_range]

theorem effectiveTaps_getElem? (slots : Vector (Option Patch) 8) {d : Fin 40} {k : Nat} (h : k < tapCount d) :
    (effectiveTaps slots d)[k]? = some (effectiveTap slots d k) := by
  rw [effectiveTaps, List.getElem?_map, List.getElem?_range h, Option.map_some]

/-- A slot holds a patch of a design's tap. -/
def Names (slots : Vector (Option Patch) 8) (d : Fin 40) (k : Nat) (i : Fin 8) (p : Patch) : Prop :=
  slots[i] = some p ∧ p.design = d ∧ p.tap = k

/-- The lowest slot that names a tap is the one found. -/
theorem slotFor_of_lowest {slots : Vector (Option Patch) 8} {d : Fin 40} {k : Nat} {i : Fin 8} {p : Patch}
    (names : Names slots d k i p) (lowest : ∀ j q, j < i → ¬ Names slots d k j q) : slotFor slots d k = some p := by
  obtain ⟨held, design, tap⟩ := names
  have bound : i.val < slots.toList.length := by simp
  have cut : slots.toList = slots.toList.take i.val ++ some p :: slots.toList.drop (i.val + 1) := by
    have here : slots.toList[i.val] = some p := by simpa using held
    rw [← here, List.getElem_cons_drop, List.take_append_drop]
  rw [slotFor, List.findSome?_eq_some_iff]
  refine ⟨_, _, _, cut, if_pos ⟨design, tap⟩, fun o earlier => ?_⟩
  cases o with
  | none => rfl
  | some q =>
    obtain ⟨j, below, at_j⟩ := List.mem_iff_getElem.mp earlier
    have before : j < i.val := by simp at below; omega
    refine if_neg fun same => lowest ⟨j, by omega⟩ q before ⟨?_, same⟩
    rw [List.getElem_take] at at_j
    simpa using at_j

theorem slotFor_of_unnamed {slots : Vector (Option Patch) 8} {d : Fin 40} {k : Nat} (h : ∀ i p, ¬ Names slots d k i p) :
    slotFor slots d k = none := by
  rw [slotFor, List.findSome?_eq_none_iff]
  intro o listed
  cases o with
  | none => rfl
  | some q =>
    obtain ⟨j, below, at_j⟩ := List.mem_iff_getElem.mp listed
    have bound : j < 8 := by simpa using below
    exact if_neg fun same => h ⟨j, bound⟩ q ⟨by simpa using at_j, same⟩

theorem span_pos (d : Fin 40) : 1 ≤ span d := by
  revert d
  decide

/-- A tap of the library has a delay from 1 to its design's span and a 16-bit gain (R105). -/
theorem libraryTap_fits (d : Fin 40) (k : Nat) :
    1 ≤ (libraryTap d k).delay ∧ (libraryTap d k).delay ≤ span d ∧ isGain (libraryTap d k).gain := by
  have positive := span_pos d
  have below := Nat.mod_lt (Config.tapDelay d.val k) positive
  rw [← and_assoc]
  refine ⟨?_, BitVec.le_toInt _, BitVec.toInt_le⟩
  simp only [libraryTap]
  split <;> omega

/-! ### The sample -/

section
variable (lanes : Vector LaneWord 32) (b : Block) (u : State)

/-- The mix engine whose histories have taken the sample's values. -/
def sampledMix : Mix :=
  takeTailOutputs b.start (takeTailInputs (takePickups lanes u.mix) b.start u.tails) (takePickups lanes u.mix)

theorem computeSample_tails : (computeSample lanes b u).tails = takeTailInputs (takePickups lanes u.mix) b.start u.tails := rfl

theorem computeSample_mix : (computeSample lanes b u).mix =
    { (sampledMix lanes b u).send u.engine.state.sounds (channelFrame u.engine.state.sounds (sampledMix lanes b u) b.start) with
      block := (computeSample lanes b u).mix.block } := rfl

theorem computeSample_histories : (computeSample lanes b u).mix.pickupHist = (takePickups lanes u.mix).pickupHist
    ∧ (computeSample lanes b u).mix.pickupHist = (sampledMix lanes b u).pickupHist
    ∧ (computeSample lanes b u).mix.tailHist = (sampledMix lanes b u).tailHist := ⟨rfl, rfl, rfl⟩

theorem computeSample_frame : (computeSample lanes b u).mix.formed
    = channelFrame u.engine.state.sounds (sampledMix lanes b u) b.start := rfl

theorem computeSample_mixBlock : (computeSample lanes b u).mix.block
    = some (b.after u.engine.state.sounds (takePickups lanes u.mix) (sampledMix lanes b u) (computeSample lanes b u).tails
      (computeSample lanes b u).mix.formed) := rfl

theorem computeSample_tailInput (k : Fin 16) :
    tailInput (computeSample lanes b u).mix b.start k = tailInput (takePickups lanes u.mix) b.start k := by
  rw [tailInput, tailInput, mixSum_into_tail (computeSample_histories lanes b u).1]

theorem computeSample_emitterOutput (e : Fin 96) :
    emitterOutput (computeSample lanes b u).mix b.start e = emitterOutput (sampledMix lanes b u) b.start e := by
  obtain ⟨_, pickups, tails⟩ := computeSample_histories lanes b u
  rw [emitterOutput, emitterOutput, mixSum_congr pickups tails]

theorem computeSample_pickupHist (p : Fin 32) : (computeSample lanes b u).mix.pickupHist[p]
    = pushSample 4801 (deliveredSample u.mix lanes p) u.mix.pickupHist[p] := by
  rw [(computeSample_histories lanes b u).1]
  simp only [takePickups, Fin.getElem_fin, Vector.getElem_ofFn]

theorem computeSample_memory (k : Fin 16) : (computeSample lanes b u).tails.memory[k]
    = pushSample 65536 (saturate (tailInput (computeSample lanes b u).mix b.start k)) u.tails.memory[k] := by
  rw [computeSample_tailInput, computeSample_tails]
  simp only [takeTailInputs, Fin.getElem_fin, Vector.getElem_ofFn]

theorem computeSample_tailHist (k : Fin 16) : (computeSample lanes b u).mix.tailHist[k]
    = pushSample 4801 (saturate (tailOutput b.start (computeSample lanes b u).tails.memory[k] k)) u.mix.tailHist[k] := by
  rw [(computeSample_histories lanes b u).2.2, computeSample_tails]
  simp only [sampledMix, takeTailOutputs, takePickups, Fin.getElem_fin, Vector.getElem_ofFn]

theorem computeSample_formed (e : Fin 96) : (computeSample lanes b u).mix.formed[e]
    = if u.engine.state.sounds then saturate (emitterOutput (computeSample lanes b u).mix b.start e) else 0 := by
  rw [computeSample_emitterOutput, computeSample_frame]
  simp only [channelFrame, Fin.getElem_fin, Vector.getElem_ofFn]

/-- The block in progress after the sample. -/
theorem computeSample_block : ∃ c, (computeSample lanes b u).mix.block = some c
    ∧ c.index = b.index + 1 ∧ c.start = b.start
    ∧ (∀ p : Fin 32, c.pickups[p] = (b.pickups[p]).take (sampleAt (computeSample lanes b u).mix.pickupHist[p] 0))
    ∧ (∀ e : Fin 96, c.emitters[e] = (b.emitters[e]).take (computeSample lanes b u).mix.formed[e]
      ∧ c.emitterSat[e] = (b.emitterSat[e]
        || (u.engine.state.sounds && saturates (emitterOutput (computeSample lanes b u).mix b.start e))))
    ∧ ∀ k : Fin 16, c.tailSat[k] = (b.tailSat[k] || saturates (tailInput (computeSample lanes b u).mix b.start k)
        || saturates (tailOutput b.start (computeSample lanes b u).tails.memory[k] k)) := by
  refine ⟨_, computeSample_mixBlock lanes b u, rfl, rfl, fun p => ?_, fun e => ⟨?_, ?_⟩, fun k => ?_⟩
  · rw [(computeSample_histories lanes b u).2.1]
    simp only [Block.after, Fin.getElem_fin, Vector.getElem_ofFn]
  · simp only [Block.after, Fin.getElem_fin, Vector.getElem_ofFn]
  · rw [computeSample_emitterOutput]
    simp only [Block.after, Fin.getElem_fin, Vector.getElem_ofFn]
  · rw [computeSample_tailInput]
    simp only [Block.after, Fin.getElem_fin, Vector.getElem_ofFn]

/-- What is sent, and what the sample leaves of the mix engine and the tails. -/
theorem computeSample_leaves :
    (computeSample lanes b u).mix.formedBefore = u.mix.formed
      ∧ (computeSample lanes b u).mix.lanesOut
        = some (if u.engine.state.sounds then u.mix.formedBefore else Vector.replicate 96 0)
      ∧ (computeSample lanes b u).mix.locks = u.mix.locks ∧ (computeSample lanes b u).mix.lockRun = u.mix.lockRun
      ∧ (computeSample lanes b u).mix.clock = u.mix.clock ∧ (computeSample lanes b u).mix.opening = u.mix.opening
      ∧ (computeSample lanes b u).mix.emitterClip = u.mix.emitterClip ∧ (computeSample lanes b u).mix.tailClip = u.mix.tailClip
      ∧ (computeSample lanes b u).mix.clipBlocks = u.mix.clipBlocks
      ∧ (computeSample lanes b u).tails = { u.tails with memory := (computeSample lanes b u).tails.memory } := by
  rw [computeSample_mix, computeSample_tails]
  simp only [Mix.send, sampledMix, takeTailOutputs, takePickups, takeTailInputs, and_self]

end

/-- The block a sample is taken in: the one in progress, or the one the first period begins (R90). -/
theorem samplePeriod_of_block {s : State} {b : Block} (lanes : Vector LaneWord 32) (markers : BitVec 4) (present : s.mix.clock = true)
    (awake : s.engine.state ≠ .loading)
    (block : (s.mix.block = some b ∧ b.index < 48) ∨ (s.mix.block = none ∧ (openBlock s).mix.block = some b)) :
    ∃ t, samplePeriod lanes markers s = computeSample lanes b (judgeLanes markers t) ∧ SameOutside [.mix] s t
      ∧ t.mix = { s.mix with block := some b, opening := t.mix.opening } ∧ (s.mix.opening = false → t.mix.opening = false) := by
  have processes : s.processes = true := by simp [State.processes, present, awake]
  rcases block with ⟨inBlock, short⟩ | ⟨none_yet, first⟩
  · refine ⟨s, ?_, SameOutside.refl _ _, ?_, id⟩
    · simp only [samplePeriod, processes, if_true, inBlock, Option.isNone_some, Bool.false_eq_true, if_false, if_pos short]
    · rw [← inBlock]
  · have start : freshBlock (blockStart s) = b := Option.some.inj first
    have short : b.index < 48 := by rw [← start]; exact Nat.zero_lt_succ 47
    refine ⟨openBlock s, ?_, openBlock_same s, ?_, fun _ => rfl⟩
    · simp only [samplePeriod, processes, if_true, none_yet, Option.isNone_none, first, if_pos short]
    · rw [← start]
      rfl

/-- Settles O35: the block's start by its definition, the sample from what it makes of the mix engine and the tails, and the sums as the manual writes them. -/
theorem sampleFormsTailsAndEmitters : Obligations.SampleFormsTailsAndEmitters := by
  unfold Obligations.SampleFormsTailsAndEmitters
  refine ⟨?_, ?_, ?_, fun acc => ?_, fun h d => rfl, ?_, fun p e t => ⟨rfl, rfl, rfl, rfl, rfl, rfl⟩,
    fun taps memory => rfl, ?_⟩
  · intro s heard source dest
    have factor : ∀ p, ((s.sup.pickups[p]).factor : Int) = heard p := fun p => by
      simp only [heard]
      split
      · next h => rw [Pickup.factor_of_heard (.inl h)]; rfl
      · next h => rw [Pickup.factor_of_heard (.inr h)]; rfl
      · next h => rw [Pickup.factor_of_unheard (.inl h)]; rfl
      · next h => rw [Pickup.factor_of_unheard (.inr h)]; rfl
    have sources : ∀ k, (sourceFactor s.sup k : Int) = source k := fun k => by
      cases k with
      | tailToEmitter t e => rfl
      | pickupToEmitter p e => exact factor p
      | pickupToTail p t => exact factor p
    have dests : ∀ k, (destFactor s.sup k : Int) = dest k := fun k => by cases k <;> rfl
    simp only [openBlock, freshBlock, blockStart, effectiveGain, sources, dests]
  · intro s due opening running
    have stands : finishStopping s = s := by simp only [finishStopping, running, Bool.false_eq_true, if_false]
    rw [settle_of_nothing_due due, opening, if_pos rfl, stands]
  · intro s lanes markers b settled present awake block live sent outside measured
    obtain ⟨r, taken, same, mix_r, opening⟩ := samplePeriod_of_block lanes markers present awake block
    have locks_r : r.mix.locks = s.mix.locks := by rw [mix_r]
    have run_r : r.mix.lockRun = s.mix.lockRun := by rw [mix_r]
    have judged := judgeLanes_mix_eq markers locks_r run_r
    obtain ⟨regs, notice⟩ := judgeLanes_alike markers (.of_same same (by decide)) locks_r run_r
    have frame : SameOutside [.mix, .regs, .notice] s (judgeLanes markers r) :=
      (same.mono (by decide)).trans (judgeLanes_same r markers)
    have goes : exec (.sampleComputation lanes markers) s = .next (computeSample lanes b (judgeLanes markers r)) :=
      (exec_of_settled settled _).trans (congrArg _ taken)
    generalize judgeLanes markers r = u at *
    have tails_u : u.tails = s.tails := frame .tails (by decide)
    have sounds : u.engine.state.sounds = live := by
      rw [show u.engine = s.engine from frame .engine (by decide)]
      exact sounds_eq _
    have histories : u.mix.pickupHist = s.mix.pickupHist ∧ u.mix.tailHist = s.mix.tailHist := by
      rw [judged, mix_r]
      exact ⟨rfl, rfl⟩
    have outputs : u.mix.formed = s.mix.formed ∧ u.mix.formedBefore = s.mix.formedBefore := by
      rw [judged, mix_r]
      exact ⟨rfl, rfl⟩
    have clips : u.mix.emitterClip = s.mix.emitterClip ∧ u.mix.tailClip = s.mix.tailClip ∧ u.mix.clipBlocks = s.mix.clipBlocks := by
      rw [judged, mix_r]
      exact ⟨rfl, rfl, rfl⟩
    have lanes_u : u.mix.locks = (judgeLanes markers s).mix.locks ∧ u.mix.lockRun = (judgeLanes markers s).mix.lockRun := by
      simp only [judged, and_self]
    have runs : u.mix.clock = true ∧ u.mix.opening = false := by
      refine ⟨by rw [judged, mix_r]; exact present, ?_⟩
      rw [judged]
      exact opening settled.2.1
    obtain ⟨c, block_t, index, start, pickups, emitters, tailSat⟩ := computeSample_block lanes b u
    obtain ⟨formedBefore, lanesOut, locks, lockRun, clock, opened, emitterClip, tailClip, clipBlocks, tails⟩ :=
      computeSample_leaves lanes b u
    have pickupHist := computeSample_pickupHist lanes b u
    have memory := computeSample_memory lanes b u
    have tailHist := computeSample_tailHist lanes b u
    have formed := computeSample_formed lanes b u
    have outer := computeSample_same u lanes b
    generalize computeSample lanes b u = t at *
    rw [sounds, outputs.2] at lanesOut
    refine ⟨t, c, goes, block_t, fun p => ⟨?_, rfl, fun d within => ?_⟩, fun k => ⟨?_, fun d within => ?_⟩,
      fun k => ⟨?_, fun d within => ?_⟩, fun e => ?_, index, start, pickups, fun e => ⟨(emitters e).1, ?_⟩, fun k => ?_,
      formedBefore.trans outputs.1, lanesOut, fun k j e at_channel => outputLanes_of_sent lanesOut at_channel,
      locks.trans lanes_u.1, lockRun.trans lanes_u.2, ?_, ?_, ?_, clock.trans runs.1, opened.trans runs.2,
      emitterClip.trans clips.1, tailClip.trans clips.2.1, clipBlocks.trans clips.2.2, ?_⟩
    · rw [pickupHist, sampleAt_push_zero, deliveredSample, locks]
    · rw [pickupHist, sampleAt_push_succ within, histories.1]
    · rw [memory, sampleAt_push_zero, tailInput]
    · rw [memory, sampleAt_push_succ within, tails_u]
    · rw [tailHist, sampleAt_push_zero, tailOutput]
      cases b.start.designs[k] <;> rfl
    · rw [tailHist, sampleAt_push_succ within, histories.2]
    · rw [formed, sounds, emitterOutput]
    · rw [(emitters e).2, sounds, emitterOutput]
      rfl
    · rw [tailSat, tailInput, tailOutput]
      cases b.start.designs[k] <;> rfl
    · rw [outer .regs (by decide), regs]
    · rw [outer .notice (by decide), notice]
    · rw [tails, tails_u]
    · exact (frame.mono (by decide)).trans (outer.mono (by decide))
  · exact ⟨(roundSum_bounds acc).1, (roundSum_bounds acc).2, saturate_eq acc⟩
  · intro m test es
    rw [mixSum]
    congr 1
    refine List.map_congr_left fun e _ => ?_
    obtain ⟨key, delay, gain⟩ := e
    cases key <;> rfl
  · intro slots d k named
    refine ⟨effectiveTaps_length slots d, fun counted => ⟨effectiveTap slots d k, effectiveTaps_getElem? slots counted, ?_, ?_⟩⟩
    · intro i p names lowest
      rw [effectiveTap, slotFor_of_lowest names lowest]
    · intro unnamed
      have taken : effectiveTap slots d k = libraryTap d k := by rw [effectiveTap, slotFor_of_unnamed unnamed]
      rw [taken]
      exact ⟨rfl, libraryTap_fits d k⟩

end Sys2Proof.Machine
end

section
/-! The block end unit by unit (R90), and one pickup's block end by its state (R121 to R128). -/

namespace Sys2Proof.Machine

/-! ### What each unit does at a block end -/

section
variable (s : State) (b : Block)

theorem fadeActs_stager : (fadeActs s).stager = if s.stager.fade.counting = true ∧ 1 < s.stager.fade.remaining then
    { s.stager with fade := { s.stager.fade with remaining := s.stager.fade.remaining - 1 } } else s.stager := by
  by_cases counting : s.stager.fade.counting = true
  · by_cases last : s.stager.fade.remaining ≤ 1
    · rw [fadeActs, if_pos counting, if_pos last, if_neg (by omega)]
      rfl
    · rw [fadeActs, if_pos counting, if_neg last, if_pos ⟨counting, by omega⟩]
      rfl
  · rw [fadeActs, if_neg counting, if_neg fun h => counting h.1]

theorem fadeActs_due : (fadeActs s).due
    = s.due ++ if s.stager.fade.counting = true ∧ s.stager.fade.remaining ≤ 1 then [.fade] else [] := by
  by_cases counting : s.stager.fade.counting = true
  · by_cases last : s.stager.fade.remaining ≤ 1
    · rw [fadeActs, if_pos counting, if_pos last, if_pos ⟨counting, last⟩]
      rfl
    · rw [fadeActs, if_pos counting, if_neg last, if_neg fun h => last h.2, List.append_nil]
      rfl
  · rw [fadeActs, if_neg counting, if_neg fun h => counting h.1, List.append_nil]

theorem holdoffActs_cue : (holdoffActs s).cue
    = if 1 < s.cue.counter then { s.cue with counter := s.cue.counter - 1 } else s.cue := by
  unfold holdoffActs
  split
  · rw [if_neg (by omega)]
  · split
    · rw [if_neg (by omega)]
      rfl
    · rw [if_pos (by omega)]
      rfl

theorem holdoffActs_due : (holdoffActs s).due = s.due ++ if s.cue.counter = 1 then [.holdoff] else [] := by
  unfold holdoffActs
  split
  · rw [if_neg (by omega), List.append_nil]
  · split
    · rfl
    · exact (List.append_nil _).symm

theorem metersAct_of_not_running (h : s.engine.state ≠ .running) : metersAct b s = s := if_neg h

/-- The interval of a RUNNING meter unit: it stands at its last block, of which the expiry is due (R144). -/
theorem metersAct_meter (h : s.engine.state = .running) : (metersAct b s).meter = { s.meter.accumulate b with
    interval := if s.meterInterval = 0 then 0
      else if s.meter.interval + 1 = s.meterInterval then s.meter.interval else s.meter.interval + 1 } := by
  have counts : (s.meter.accumulate b).interval = s.meter.interval := by rw [Meter.accumulate]
  rw [metersAct, if_pos h]
  generalize s.meter.accumulate b = taken at counts
  simp only [State.setMeter_meter, counts]
  by_cases off : s.meterInterval = 0
  · rw [if_pos off, if_pos off]
    rfl
  · rw [if_neg off, if_neg off]
    by_cases last : s.meter.interval + 1 = s.meterInterval
    · rw [if_pos last, if_pos last, ← counts]
      rfl
    · rw [if_neg last, if_neg last]
      rfl

theorem metersAct_due : (metersAct b s).due = s.due ++
    if s.engine.state = .running ∧ s.meterInterval ≠ 0 ∧ s.meter.interval + 1 = s.meterInterval then [.meter] else [] := by
  by_cases running : s.engine.state = .running
  · have counts : (s.meter.accumulate b).interval = s.meter.interval := by rw [Meter.accumulate]
    rw [metersAct, if_pos running]
    generalize s.meter.accumulate b = taken at counts
    simp only [State.setMeter_meter, counts]
    by_cases off : s.meterInterval = 0
    · rw [if_pos off, if_neg fun h => h.2.1 off, List.append_nil]
      rfl
    · rw [if_neg off]
      by_cases last : s.meter.interval + 1 = s.meterInterval
      · rw [if_pos last, if_pos ⟨running, off, last⟩]
        rfl
      · rw [if_neg last, if_neg fun h => last h.2.2, List.append_nil]
        rfl
  · rw [metersAct_of_not_running s b running, if_neg fun h => running h.1, List.append_nil]

theorem newlyClipped_iff (m : Mix) : newlyClipped b m = true ↔
    (∃ e : Fin 96, b.emitterSat[e] = true ∧ m.emitterClip[e] = false) ∨ ∃ k : Fin 16, b.tailSat[k] = true ∧ m.tailClip[k] = false := by
  simp only [newlyClipped, Bool.or_eq_true, List.any_eq_true, List.mem_finRange, true_and, Bool.and_eq_true, Bool.not_eq_true']

/-- CLIP is raised once where a clip flag is newly set (R100). -/
theorem closeBlock_notice : (closeBlock b s).notice =
    (if (∃ e : Fin 96, b.emitterSat[e] = true ∧ s.mix.emitterClip[e] = false)
        ∨ ∃ k : Fin 16, b.tailSat[k] = true ∧ s.mix.tailClip[k] = false then [NoticeKind.clip] else []).foldl
      (fun u k => u.raise s.root (plainRaising k)) s.notice := by
  rw [closeBlock]
  by_cases clips : newlyClipped b s.mix = true
  · rw [if_pos clips, if_pos ((newlyClipped_iff b s.mix).mp clips)]
    rfl
  · rw [if_neg clips, if_neg (mt (newlyClipped_iff b s.mix).mpr clips)]
    rfl

theorem closeBlock_due : (closeBlock b s).due = s.due := closeBlock_same s b .due (by decide)

end

/-! ### The whole block end -/

section
variable (s : State) (b : Block)

/-- The state after the ramp unit, the stager and the supervisor, before the meter unit. -/
def supervised : State := pickupsAct b (fadeActs (rampsAct s))

theorem supervised_same : SameOutside [.table, .sup, .due, .stager, .notice] s (supervised s b) := by
  have ramps : SameOutside [.due, .table, .sup] s (rampsAct s) := by simp [sameOutside_iff, rampsAct]
  exact (SameOutside.mono ramps (by decide)).trans
    ((SameOutside.mono (fadeActs_same _) (by decide)).trans (SameOutside.mono (pickupsAct_same _ b) (by decide)))

theorem blockEnd_table : (blockEnd b s).table = s.table.map Entry.advance :=
  Eq.trans (closeBlock_same _ b .table (by decide)) (Eq.trans (holdoffActs_same _ .table (by decide))
    (Eq.trans (metersAct_same _ b .table (by decide)) (Eq.trans (pickupsAct_same _ b .table (by decide))
      (fadeActs_same (rampsAct s) .table (by decide)))))

theorem blockEnd_stager : (blockEnd b s).stager = (fadeActs s).stager := by
  have fades : (fadeActs (rampsAct s)).stager = (fadeActs s).stager := by
    rw [fadeActs_stager, fadeActs_stager]
    rfl
  exact Eq.trans (closeBlock_same _ b .stager (by decide)) (Eq.trans (holdoffActs_same _ .stager (by decide))
    (Eq.trans (metersAct_same _ b .stager (by decide)) (Eq.trans (pickupsAct_same _ b .stager (by decide)) fades)))

theorem blockEnd_cue : (blockEnd b s).cue
    = if 1 < s.cue.counter then { s.cue with counter := s.cue.counter - 1 } else s.cue := by
  have cue : (metersAct b (supervised s b)).cue = s.cue :=
    Eq.trans (metersAct_same _ b .cue (by decide)) (supervised_same s b .cue (by decide))
  have counted := holdoffActs_cue (metersAct b (supervised s b))
  rw [cue] at counted
  exact Eq.trans (closeBlock_same _ b .cue (by decide)) counted

theorem blockEnd_meter : (blockEnd b s).meter = (metersAct b (supervised s b)).meter :=
  Eq.trans (closeBlock_same _ b .meter (by decide)) (holdoffActs_same _ .meter (by decide))

theorem blockEnd_notice : (blockEnd b s).notice =
    ((List.finRange 32).filterMap (fun p => ((s.sup.moveGains (decide (s.engine.state = .running))).pickupEnds b p).2.notice)
      ++ (if (∃ e : Fin 96, b.emitterSat[e] = true ∧ s.mix.emitterClip[e] = false)
        ∨ ∃ k : Fin 16, b.tailSat[k] = true ∧ s.mix.tailClip[k] = false then [NoticeKind.clip] else [])).foldl
      (fun u k => u.raise s.root (plainRaising k)) s.notice := by
  have later : SameOutside [.meter, .due, .cue] (supervised s b) (holdoffActs (metersAct b (supervised s b))) :=
    (SameOutside.mono (metersAct_same _ b) (by decide)).trans (SameOutside.mono (holdoffActs_same _) (by decide))
  have before := supervised_same s b
  have root : (holdoffActs (metersAct b (supervised s b))).root = s.root :=
    Eq.trans (later .root (by decide)) (before .root (by decide))
  have mix : (holdoffActs (metersAct b (supervised s b))).mix = s.mix :=
    Eq.trans (later .mix (by decide)) (before .mix (by decide))
  have pickups : (supervised s b).notice = _ := pickupsAct_notice b (fadeActs (rampsAct s))
  rw [fadeActs_rampsAct_sup, show (fadeActs (rampsAct s)).root = s.root from fadeActs_same (rampsAct s) .root (by decide),
    show (fadeActs (rampsAct s)).notice = s.notice from fadeActs_same (rampsAct s) .notice (by decide)] at pickups
  have closed := closeBlock_notice (holdoffActs (metersAct b (supervised s b))) b
  rw [root, mix, show (holdoffActs (metersAct b (supervised s b))).notice = _ from later .notice (by decide), pickups,
    ← List.foldl_append] at closed
  exact closed

/-- The ends that fall at a block end, in the order in which its units list them (R90). -/
theorem blockEnd_due : (blockEnd b s).due = s.due ++ s.table.filterMap Entry.dueEnd
    ++ (if s.stager.fade.counting = true ∧ s.stager.fade.remaining ≤ 1 then [.fade] else [])
    ++ (List.finRange 32).filterMap (fun p => ((s.sup.moveGains (decide (s.engine.state = .running))).pickupEnds b p).2.due p)
    ++ (if s.engine.state = .running ∧ s.meterInterval ≠ 0 ∧ s.meter.interval + 1 = s.meterInterval then [.meter] else [])
    ++ (if s.cue.counter = 1 then [.holdoff] else []) := by
  have before := supervised_same s b
  have engine : (supervised s b).engine = s.engine := before .engine (by decide)
  have meter : (supervised s b).meter = s.meter := before .meter (by decide)
  have root : (supervised s b).root = s.root := before .root (by decide)
  have interval : (supervised s b).meterInterval = s.meterInterval := by rw [State.meterInterval, State.meterInterval, root]
  have cue : (metersAct b (supervised s b)).cue = s.cue :=
    Eq.trans (metersAct_same _ b .cue (by decide)) (before .cue (by decide))
  have pickups : (supervised s b).due = _ := pickupsAct_due b (fadeActs (rampsAct s))
  rw [fadeActs_due, fadeActs_rampsAct_sup] at pickups
  have closed : (blockEnd b s).due = (holdoffActs (metersAct b (supervised s b))).due := closeBlock_due _ b
  rw [closed, holdoffActs_due, metersAct_due, engine, meter, interval, cue, pickups]
  rfl

end

/-! ### One pickup -/

theorem pushFour_eq {α : Type} (h : List α) (x : α) : pushFour h x = (h ++ [x]).drop (h.length - 3) := by
  simp only [pushFour, List.length_append, List.length_singleton]
  congr 1

theorem threeOfFour_iff (h : List Bool) : threeOfFour h = true ↔ 3 ≤ h.count true := decide_eq_true_iff

theorem Pickup.riseBit_eq (p : Pickup) (energy : Nat) :
    p.riseBit energy = decide (p.ring.ringFloor ≤ energy ∧ p.previous * p.ring.rise < energy * 256) := by
  rw [Pickup.riseBit, Bool.decide_and]

/-- A LIVE or RINGING pickup at a block end: the silence watchdog, then the ring monitor (R121). -/
theorem Pickup.blockEnd_of_heard {p : Pickup} (h : p.state = .live ∨ p.state = .ringing) (peak energy : Nat) :
    p.blockEnd (peak, energy) =
      if peak < p.floor ∧ p.limit ≤ (Pickup.countSilence peak { p with previous := energy }).silence then
        (Pickup.countSilence peak { p with previous := energy }, .silenceDue)
      else (Pickup.countSilence peak { p with previous := energy }).monitor (p.riseBit energy) := by
  rcases h with h | h <;> simp only [Pickup.blockEnd, h]

/-- Settles O37: each state by its branch of the block end. -/
theorem pickupActsByState : Obligations.PickupActsByState := by
  intro p peak energy rise rises silence heard
  have bit : p.riseBit energy = rise := p.riseBit_eq energy
  have bits : pushFour p.rises rise = rises := pushFour_eq p.rises rise
  refine ⟨fun disabled => ?_, fun silent => ?_, fun state => ?_, fun n => rfl⟩
  · rw [Pickup.blockEnd, disabled]
  · intro present
    have tested : pushFour p.presence (p.presenceBit peak) = present := pushFour_eq p.presence _
    simp only [Pickup.blockEnd, silent, Pickup.presenceTest, tested, threeOfFour_iff]
    rfl
  · have counted : Pickup.countSilence peak { p with previous := energy } = heard := rfl
    have held : heard.state = p.state ∧ heard.hold = p.hold ∧ heard.rises = p.rises ∧ heard.trim = p.trim
      ∧ heard.ring = p.ring := ⟨rfl, rfl, rfl, rfl, rfl⟩
    obtain ⟨state_heard, hold_heard, rises_heard, trim_heard, ring_heard⟩ := held
    rw [Pickup.blockEnd_of_heard state, counted, bit]
    have silence_heard : heard.silence = silence := rfl
    simp only [Pickup.monitor, silence_heard, rises_heard, state_heard, hold_heard, trim_heard, ring_heard, bits, threeOfFour_iff]
    rfl

/-! ### The meter unit's records -/

theorem accumulate_pickups (b : Block) (m : Meter) (p : Fin 32) :
    (m.accumulate b).pickups[p] = (m.pickups[p]).add b.pickups[p].closed false := by
  simp only [Meter.accumulate, Fin.getElem_fin, Vector.getElem_ofFn]

theorem accumulate_emitters (b : Block) (m : Meter) (e : Fin 96) :
    (m.accumulate b).emitters[e] = (m.emitters[e]).add b.emitters[e].closed b.emitterSat[e] := by
  simp only [Meter.accumulate, Fin.getElem_fin, Vector.getElem_ofFn]

theorem moveGains_pickups (running : Bool) (u : Supervisor) (p : Fin 32) : (u.moveGains running).pickups[p]
    = { u.pickups[p] with muteGain := moveGain (pickupAim u.pickups[p].muteFlag) u.pickups[p].muteGain } := by
  simp only [Supervisor.moveGains, Fin.getElem_fin, Vector.getElem_map]

theorem moveGains_emitterGain (running : Bool) (u : Supervisor) (e : Fin 96) : (u.moveGains running).emitterGain[e]
    = moveGain (emitterAim running u.emitterFlag[e]) u.emitterGain[e] := by
  simp only [Supervisor.moveGains, Fin.getElem_fin, Vector.getElem_ofFn]

theorem emitterAim_eq (x : EngineState) (flag : Bool) :
    emitterAim (decide (x = .running)) flag = if x = .running ∧ flag = false then 256 else 0 := by
  cases flag <;> simp [emitterAim]

theorem close_parts (b : Block) (m : Mix) :
    (∀ e : Fin 96, (m.close b).emitterClip[e] = (m.emitterClip[e] || b.emitterSat[e])
        ∧ (m.close b).clipBlocks[e] = if b.emitterSat[e] then min 65535 (m.clipBlocks[e] + 1) else m.clipBlocks[e])
      ∧ (∀ k : Fin 16, (m.close b).tailClip[k] = (m.tailClip[k] || b.tailSat[k]))
      ∧ m.close b = { m with
          emitterClip := (m.close b).emitterClip, tailClip := (m.close b).tailClip, clipBlocks := (m.close b).clipBlocks
          block := none, opening := true } := by
  refine ⟨fun e => ⟨?_, ?_⟩, fun k => ?_, ?_⟩
  · simp only [Mix.close, Fin.getElem_fin, Vector.getElem_ofFn]
  · simp only [Mix.close, countTo, Fin.getElem_fin, Vector.getElem_ofFn]
  · simp only [Mix.close, Fin.getElem_fin, Vector.getElem_ofFn]
  · rw [Mix.close]

theorem blockEnd_emitterFlag (b : Block) (s : State) : (blockEnd b s).sup.emitterFlag = s.sup.emitterFlag := by
  rw [blockEnd_sup, (pickupsAct_emitters _ _).2, fadeActs_rampsAct_sup, Supervisor.moveGains]

/-- Settles O36: each clause from what its unit does at the block end. -/
theorem blockEndCountsInEveryUnit : Obligations.BlockEndCountsInEveryUnit := by
  intro s b settled present awake block full move heard moved added kinds
  have closes : exec .blockEnd s = .next (blockEnd b s) :=
    (exec_of_settled settled .blockEnd).trans (congrArg _ (blockEndStep_of_full present awake block full))
  have same : SameOutside [.due, .table, .sup, .stager, .notice, .meter, .cue, .mix] s (blockEnd b s) := by
    have step := blockEndStep_same s
    rwa [blockEndStep_of_full present awake block full] at step
  have ends : ∀ p, (s.sup.moveGains (decide (s.engine.state = .running))).pickupEnds b p = (moved p).blockEnd (heard p) := fun p => by
    rw [Supervisor.pickupEnds, moveGains_pickups]
    rfl
  have running : s.engine.state = .running → (blockEnd b s).meter = { s.meter.accumulate b with
      interval := if s.meterInterval = 0 then 0
        else if s.meter.interval + 1 = s.meterInterval then s.meter.interval else s.meter.interval + 1 } := fun running => by
    have before := supervised_same s b
    have engine : (supervised s b).engine = s.engine := before .engine (by decide)
    have meter : (supervised s b).meter = s.meter := before .meter (by decide)
    have root : (supervised s b).root = s.root := before .root (by decide)
    have interval : (supervised s b).meterInterval = s.meterInterval := by rw [State.meterInterval, State.meterInterval, root]
    rw [blockEnd_meter, metersAct_meter (supervised s b) b (by rw [engine]; exact running), meter, interval]
  have resting : s.engine.state ≠ .running → (blockEnd b s).meter = s.meter := fun resting => by
    have before := supervised_same s b
    have engine : (supervised s b).engine = s.engine := before .engine (by decide)
    rw [blockEnd_meter, metersAct_of_not_running _ b (by rw [engine]; exact resting)]
    exact before .meter (by decide)
  have mix := blockEnd_mix b s
  obtain ⟨emitterClip, tailClip, closed⟩ := close_parts b s.mix
  refine ⟨blockEnd b s, closes, blockEnd_table s b, fun e => ?_, fun p => ?_, (blockEnd_stager s b).trans (fadeActs_stager s),
    blockEnd_cue s b, resting, ?_, fun runs => ⟨fun p => ?_, fun e => ?_, ?_⟩, ?_, ?_, ?_, ?_, blockEnd_emitterFlag b s, ?_, ?_⟩
  · rw [blockEnd_emitterGain, moveGains_emitterGain, emitterAim_eq]
    rfl
  · rw [blockEnd_pickups, ends]
  · by_cases runs : s.engine.state = .running
    · rw [running runs, Meter.accumulate]
    · rw [resting runs]
  · rw [running runs]
    exact accumulate_pickups b s.meter p
  · rw [running runs]
    exact accumulate_emitters b s.meter e
  · rw [running runs]
  · rw [mix]
    exact emitterClip
  · rw [mix]
    exact tailClip
  · rw [blockEnd_notice]
    simp only [ends]
    rfl
  · rw [blockEnd_due, settled.1, List.nil_append]
    simp only [ends]
  · rw [mix]
    exact closed
  · exact same.mono (by decide)

end Sys2Proof.Machine
end

section
/-! The ends of a block end taken one by one (R16, R60, R69, R72, R73, R122, R127, R144 to R146, R156). -/

namespace Sys2Proof.Machine

theorem takeDue_of_due {d : Due} {s : State} (h : d ∈ s.due) : takeDue d s = dueEffect d (s.setDue (s.due.erase d)) := if_pos h

/-! ### Movements -/

theorem removeEntry_eq (k : Key) (t : List Entry) : removeEntry k t = t.filter fun e => decide (e.key ≠ k) := by
  refine List.filter_congr fun e _ => ?_
  by_cases same : e.key = k <;> simp [same]

/-- In a table in key order one entry at most has a key (R8, R13). -/
theorem length_filter_key {k : Key} {t : List Entry} (ordered : t.Pairwise fun a b => a.key.rank < b.key.rank)
    (held : ∃ e ∈ t, e.key = k) : (t.filter fun e => decide (e.key ≠ k)).length + 1 = t.length := by
  induction t with
  | nil =>
    obtain ⟨_, listed, _⟩ := held
    cases listed
  | cons x t ih =>
    obtain ⟨above, ordered⟩ := List.pairwise_cons.mp ordered
    by_cases here : x.key = k
    · have others : ∀ e ∈ t, decide (e.key ≠ k) = true := fun e listed => by
        have higher := above e listed
        refine decide_eq_true fun same => ?_
        rw [here, same] at higher
        exact absurd higher (Nat.lt_irrefl _)
      rw [List.filter_cons_of_neg (by simp [here]), List.filter_eq_self.mpr others, List.length_cons]
    · obtain ⟨e, listed, key⟩ := held
      have later : e ∈ t := (List.mem_cons.mp listed).resolve_left fun same => here (same ▸ key)
      rw [List.filter_cons_of_pos (by simp [here]), List.length_cons, ih ordered ⟨e, later, key⟩, List.length_cons]

/-- Settles O38: each end by its effect on the entry of its key. -/
theorem movementEnds : Obligations.MovementEnds := by
  intro s k
  have taken : ∀ (c : Instr) (d : Due), endOf c = some d → d ∈ s.due →
      exec c s = .next (dueEffect d (s.setDue (s.due.erase d))) := fun c d ends due => by
    rw [exec_eq, act_of_end ends, before, ends, takeDue_of_due due]
  refine ⟨fun due => taken _ _ rfl due, fun due => ?_, fun ordered held => ?_, fun due => ?_, fun due => taken _ _ rfl due⟩
  · rw [taken _ (.removal k) rfl due, dueEffect, removeEntry_eq]
    rfl
  · obtain ⟨e, listed, key⟩ := List.any_eq_true.mp held
    exact length_filter_key ordered ⟨e, listed, by simpa using key⟩
  · rw [taken _ (.dipLow k) rfl due, dueEffect]
    refine congrArg _ (congrArg _ (List.map_congr_left fun e _ => ?_))
    by_cases here : e.key = k
    · rw [if_pos here, if_pos here, Entry.lowPoint]
      cases e.motion <;> rfl
    · rw [if_neg here, if_neg here]

/-! ### The other ends -/

/-- What the progress record shows (R174). -/
def recordParts : List Part := [.root, .progress, .engine, .reader, .stager, .table, .cue, .meter, .prot, .store]

/-- An occasion to write the progress record does the same on states that show the same in it (R172). -/
theorem progressOccasion_congr {ps : List Part} {s t : State} (h : SameOutside ps s t)
    (apart : recordParts.any ps.contains = false) : (progressOccasion t).progress = (progressOccasion s).progress := by
  simp only [recordParts, List.any_cons, List.any_nil, Bool.or_false, Bool.or_eq_false_iff, List.contains_eq_mem,
    decide_eq_false_iff_not] at apart
  obtain ⟨root, progress, engine, reader, stager, table, cue, meter, prot, store⟩ := apart
  have root : t.root = s.root := h .root root
  have progress : t.progress = s.progress := h .progress progress
  have engine : t.engine = s.engine := h .engine engine
  have reader : t.reader = s.reader := h .reader reader
  have stager : t.stager = s.stager := h .stager stager
  have table : t.table = s.table := h .table table
  have cue : t.cue = s.cue := h .cue cue
  have meter : t.meter = s.meter := h .meter meter
  have prot : t.prot = s.prot := h .prot prot
  have store : t.store = s.store := h .store store
  have bytes : ∀ seq, progressBytes t seq = progressBytes s seq := fun seq => by
    unfold progressBytes
    rw [engine, reader, stager, table, cue, meter, prot, store]
  unfold progressOccasion
  rw [root, progress]
  split
  · exact progress
  · split
    · rfl
    · rw [beginProgress, beginProgress, bytes, progress]
      rfl

theorem askInterval_of_writing {s : State} (h : s.meter.writer.isSome = true) :
    askInterval s = s.setMeter { s.meter with skips := (s.meter.skips + 1) % 4294967296 } := by
  obtain ⟨w, writing⟩ := Option.isSome_iff_exists.mp h
  rw [askInterval, writing, ← wrap32]

theorem askInterval_of_idle {s : State} {r : Root} (idle : s.meter.writer = none) (root : s.root = some r) :
    askInterval s = takeSnapshot r .interval false s := by
  rw [askInterval, idle, root]

theorem meterExpiry_of_writing {s : State} (h : s.meter.writer.isSome = true) :
    meterExpiry s = s.setMeter { s.meter with interval := 0, skips := (s.meter.skips + 1) % 4294967296 } :=
  askInterval_of_writing (s := s.setMeter { s.meter with interval := 0 }) h

theorem meterExpiry_of_idle {s : State} {r : Root} (idle : s.meter.writer = none) (root : s.root = some r) :
    meterExpiry s = takeSnapshot r .interval false (s.setMeter { s.meter with interval := 0 }) :=
  askInterval_of_idle (s := s.setMeter { s.meter with interval := 0 }) idle root

theorem askInterval_interval (s : State) : (askInterval s).meter.interval = s.meter.interval := by
  unfold askInterval
  split <;> rfl

/-- Settles O39: each end by its effect. -/
theorem otherBlockEndEnds : Obligations.OtherBlockEndEnds := by
  intro s p
  have taken : ∀ (c : Instr) (d : Due), endOf c = some d → d ∈ s.due →
      exec c s = .next (dueEffect d (s.setDue (s.due.erase d))) := fun c d ends due => by
    rw [exec_eq, act_of_end ends, before, ends, takeDue_of_due due]
  have unlisted : ∀ ds, SameOutside [.due] s (s.setDue ds) := fun ds => by simp [sameOutside_iff]
  refine ⟨fun due => ?_, fun due => ?_, fun due => taken _ _ rfl due, fun due => ?_, fun due => taken _ _ rfl due⟩
  · refine ⟨_, taken .fadeEnd .fade rfl due, ?_⟩
    have stager : (fadeEnds (s.setDue (s.due.erase .fade))).stager
        = { s.stager with fade := { cue := s.stager.fade.cue, remaining := 0, counting := false } } := by simp [fadeEnds]
    have counted : SameOutside [.stager, .due] s ((s.setDue (s.due.erase .fade)).setStager
        { s.stager with fade := { s.stager.fade with remaining := 0, counting := false } }) := by simp [sameOutside_iff]
    have alike := (EventsAlike.of_same counted (by decide)).raise .stager .fade
    have due_after : (fadeEnds (s.setDue (s.due.erase .fade))).due = s.due.erase .fade :=
      dueEffect_touches _ .fade .due (by decide)
    have noticed : (fadeEnds (s.setDue (s.due.erase .fade))).notice = (raise .stager .fade s).notice :=
      Eq.trans (progressOccasion_same _ .notice (by decide)) alike.notice
    refine ⟨stager, ?_, due_after, noticed, ?_⟩
    · exact (SameOutside.mono (unlisted _) (by decide)).trans (SameOutside.mono (dueEffect_touches _ .fade) (by decide))
    · rw [show (dueEffect .fade (s.setDue (s.due.erase .fade))).stager = _ from stager]
      refine progressOccasion_congr (ps := [.due, .notice]) ?_ (by decide)
      simp [sameOutside_iff]
  · refine ⟨_, taken (.silenceLimit p) (.silence p) rfl due, rfl, ?_, ?_, ?_⟩
    · exact dueEffect_touches _ (.silence p) .due (by simp [Due.touches])
    · exact (SameOutside.mono (unlisted _) (by decide)).trans (SameOutside.mono (dueEffect_touches _ (.silence p)) (by simp [Due.touches]))
    · have quiet : SameOutside [.due, .sup] s ((s.setDue (s.due.erase (.silence p))).setSup
          (s.sup.setPickup p s.sup.pickups[p].goSilent)) := by simp [sameOutside_iff]
      exact ((EventsAlike.of_same quiet (by decide)).raise .supervisor .pickup).notice
  · refine ⟨_, taken .meterIntervalExpiry .meter rfl due, askInterval_interval _, fun writing => ?_, fun r idle root => ?_, ?_, ?_⟩
    · rw [dueEffect, meterExpiry_of_writing (s := s.setDue (s.due.erase .meter)) writing]
      rfl
    · rw [dueEffect, meterExpiry_of_idle (s := s.setDue (s.due.erase .meter)) idle root]
      rfl
    · exact (SameOutside.mono (unlisted _) (by decide)).trans (SameOutside.mono (meterExpiry_same _) (by decide))
    · exact (meterExpiry_same _) .due (by decide)

end Sys2Proof.Machine
end

section
/-! Ramps and dips from their handover to their last block end (R68 to R73). -/

namespace Sys2Proof.Machine

/-- `k` steps of a truncated n-th of `d` stay between 0 and `d` (R68). -/
theorem steps_between {n k : Nat} (positive : 1 ≤ n) (within : k ≤ n) (d : Int) :
    min 0 d ≤ k * Int.tdiv d n ∧ k * Int.tdiv d n ≤ max 0 d := by
  have upward : ∀ d : Int, 0 ≤ d → 0 ≤ k * Int.tdiv d n ∧ k * Int.tdiv d n ≤ d := fun d up => by
    have step := Int.tdiv_nonneg up (Int.natCast_nonneg n)
    refine ⟨Int.mul_nonneg (Int.natCast_nonneg k) step, ?_⟩
    calc (k : Int) * Int.tdiv d n ≤ n * Int.tdiv d n := Int.mul_le_mul_of_nonneg_right (by exact_mod_cast within) step
      _ = n * (d / n) := by rw [Int.tdiv_eq_ediv_of_nonneg up]
      _ ≤ d := Int.mul_ediv_self_le (by omega)
  rcases Int.le_total 0 d with up | down
  · obtain ⟨low, high⟩ := upward d up
    rw [min_eq_left up, max_eq_right up]
    exact ⟨low, high⟩
  · obtain ⟨low, high⟩ := upward (-d) (by omega)
    rw [Int.neg_tdiv, Int.mul_neg] at low high
    rw [min_eq_right down, max_eq_left down]
    omega

/-- The gain after `k` of the `n` steps of a ramp from `c` to `t`. -/
theorem ramp_between {n k : Nat} (positive : 1 ≤ n) (within : k ≤ n) (c t : Int) :
    min c t ≤ c + k * Int.tdiv (t - c) n ∧ c + k * Int.tdiv (t - c) n ≤ max c t := by
  have between := steps_between positive within (t - c)
  omega

/-- Block ends before the last advance a movement one step each (R69, R72, R73); `mk` is the movement with its remaining count. -/
theorem iterate_advance {mk : Nat → Motion} {step : Int}
    (advances : ∀ (e : Entry) (r : Nat), 1 < r → e.motion = mk r →
      e.advance = { e with current := e.current + step, motion := mk (r - 1) })
    {e : Entry} {n k : Nat} (moving : e.motion = mk n) (within : k < n) :
    Nat.iterate Entry.advance k e = { e with current := e.current + k * step, motion := mk (n - k) } := by
  induction k with
  | zero =>
    rw [Function.iterate_zero, id, Int.natCast_zero, Int.zero_mul, Int.add_zero, Nat.sub_zero, ← moving]
  | succ k ih =>
    rw [Function.iterate_succ_apply', ih (by omega), advances _ (n - k) (by omega) rfl]
    have gain : e.current + k * step + step = e.current + (k + 1 : Nat) * step := by
      push_cast
      ring
    simp only [gain, Nat.sub_sub]

section
variable {e : Entry} {step : Int} {r : Nat}

theorem advance_ramping (more : 1 < r) (h : e.motion = .ramping step r) :
    e.advance = { e with current := e.current + step, motion := .ramping step (r - 1) } := by
  rw [Entry.advance, h]
  exact if_neg (by omega)

theorem advance_retiring (more : 1 < r) (h : e.motion = .retiring step r) :
    e.advance = { e with current := e.current + step, motion := .retiring step (r - 1) } := by
  rw [Entry.advance, h]
  exact if_neg (by omega)

theorem advance_dipDown {d u : Nat} (more : 1 < r) (h : e.motion = .dipDown step r d u) :
    e.advance = { e with current := e.current + step, motion := .dipDown step (r - 1) d u } := by
  rw [Entry.advance, h]
  exact if_neg (by omega)

theorem advance_dipUp (more : 1 < r) (h : e.motion = .dipUp step r) :
    e.advance = { e with current := e.current + step, motion := .dipUp step (r - 1) } := by
  rw [Entry.advance, h]
  exact if_neg (by omega)

end

/-- Settles O40: by `iterate_advance` for the two ramps, between their ends by `ramp_between`. -/
theorem rampStaysBetweenAndLandsOnTime : Obligations.RampStaysBetweenAndLandsOnTime := by
  have last : ∀ {n k : Nat}, k < n → (n - k ≤ 1 ↔ k + 1 = n) := by omega
  refine ⟨fun e n k positive within => ?_, fun e n k positive within => ?_, fun e => ⟨rfl, rfl, fun settled => ?_⟩⟩
  · intro r
    have ramp : ordinaryRamp n e = { e with motion := .ramping (Int.tdiv (e.target - e.current) n) n } := if_neg (by omega)
    have after : r = { e with current := e.current + k * Int.tdiv (e.target - e.current) n,
                              motion := .ramping (Int.tdiv (e.target - e.current) n) (n - k) } := by
      simp only [r, ramp]
      exact iterate_advance (mk := .ramping _) (fun _ _ more moving => advance_ramping more moving) rfl within
    obtain ⟨low, high⟩ := ramp_between positive within.le e.current e.target
    rw [after]
    refine ⟨rfl, low, high, ?_⟩
    simp only [Entry.dueEnd, last within]
  · refine ⟨{ e with motion := .retiring (Int.tdiv (0 - e.current) n) n }, if_neg (by omega), ?_⟩
    intro r
    have after : r = { e with current := e.current + k * Int.tdiv (-e.current) n,
                              motion := .retiring (Int.tdiv (-e.current) n) (n - k) } := by
      rw [← Int.zero_sub e.current]
      exact iterate_advance (mk := .retiring _) (fun _ _ more moving => advance_retiring more moving) rfl within
    obtain ⟨low, high⟩ := ramp_between positive within.le e.current 0
    rw [Int.zero_sub] at low high
    rw [after]
    refine ⟨rfl, low, high, ?_⟩
    simp only [Entry.dueEnd, last within]
  · simp only [Entry.advance, Entry.dueEnd, settled, and_self]

/-- Settles O41: by `iterate_advance` for the way down and the way up. -/
theorem dipSwitchesDelayAtZero : Obligations.DipSwitchesDelayAtZero := by
  intro e n d k blocks within r
  have last : ∀ {n k : Nat}, k < n → (n - k ≤ 1 ↔ k + 1 = n) := by omega
  have dip : dipTo n d e = { e with motion := .dipDown (Int.tdiv (-e.current) (n / 2 : Nat)) (n / 2) d (n - n / 2) } :=
    if_neg (by omega)
  have after : r = { e with current := e.current + k * Int.tdiv (-e.current) (n / 2 : Nat),
                            motion := .dipDown (Int.tdiv (-e.current) (n / 2 : Nat)) (n / 2 - k) d (n - n / 2) } := by
    simp only [r, dip]
    exact iterate_advance (mk := fun m => .dipDown _ m d (n - n / 2)) (fun _ _ more moving => advance_dipDown more moving) rfl within
  have low : r.lowPoint = { e with current := 0, delay := d,
                                   motion := .dipUp (Int.tdiv e.target (n - n / 2 : Nat)) (n - n / 2) } := by rw [after]; rfl
  refine ⟨after, ?_, low, fun j later => ?_, rfl, ?_⟩
  · rw [after]
    simp only [Entry.dueEnd, last within]
  · have up : Nat.iterate Entry.advance j r.lowPoint =
        { e with current := j * Int.tdiv e.target (n - n / 2 : Nat), delay := d,
                 motion := .dipUp (Int.tdiv e.target (n - n / 2 : Nat)) (n - n / 2 - j) } := by
      rw [low, iterate_advance (mk := .dipUp _) (fun _ _ more moving => advance_dipUp more moving) rfl later, Int.zero_add]
    refine ⟨up, ?_⟩
    rw [up]
    simp only [Entry.dueEnd, last later]
  · simp only [dipTo, ordinaryRamp, Nat.one_lt_ofNat, if_true, Nat.one_ne_zero, if_false, Int.natCast_one, Int.tdiv_one]

end Sys2Proof.Machine
end

section
/-! The cards of the scene stager that build and fix a scene (R46 to R49). -/

namespace Sys2Proof.Machine

/-- The unit a card is at acts on the card in hand. -/
theorem onCard_of_acting {k : CardKind} (act : Hand → List Byte → State → State) {s : State} {h : Hand} {bytes : List Byte}
    (acting : s.actingOn k = some (h, bytes)) : onCard k act s = act h bytes s := by
  rw [onCard, acting]

theorem actingOn_kind {s : State} {k : CardKind} {h : Hand} {bytes : List Byte} (acting : s.actingOn k = some (h, bytes)) :
    h.kind = some k := (actingOn_eq_some acting).2.1

/-! ### STAGE -/

theorem stageInto_of_new {it : StandbyItem} {l : List StandbyItem} (h : it.key ∉ l.map StandbyItem.key) :
    stageInto it l = l ++ [it] := by
  induction l with
  | nil => rfl
  | cons x xs ih =>
    obtain ⟨first, rest⟩ := not_or.mp (mt List.mem_cons.mpr h)
    rw [stageInto, if_neg fun same => first same.symm, ih rest, List.cons_append]

/-- An item whose key is in the list is overwritten in its place, and the list's keys being different no other is (R44). -/
theorem stageInto_of_held {it : StandbyItem} {l : List StandbyItem} (distinct : l.Pairwise fun a b => a.key ≠ b.key)
    (h : it.key ∈ l.map StandbyItem.key) : stageInto it l = l.map fun i => if i.key = it.key then it else i := by
  induction l with
  | nil => cases h
  | cons x xs ih =>
    obtain ⟨apart, distinct⟩ := List.pairwise_cons.mp distinct
    by_cases here : x.key = it.key
    · have others : xs.map (fun i => if i.key = it.key then it else i) = xs := by
        conv_rhs => rw [← List.map_id xs]
        exact List.map_congr_left fun i listed => if_neg fun same => apart i listed (here.trans same.symm)
      rw [stageInto, if_pos here, List.map_cons, if_pos here, others]
    · have later : it.key ∈ xs.map StandbyItem.key := (List.mem_cons.mp h).resolve_left fun same => here same.symm
      rw [stageInto, if_neg here, ih distinct later, List.map_cons, if_neg here]

theorem any_key_iff (l : List StandbyItem) (k : Key) : (l.any fun i => i.key == k) = true ↔ k ∈ l.map StandbyItem.key := by
  simp only [List.any_eq_true, beq_iff_eq, List.mem_map]

/-- A path item of a known operation and a valid key (R47). -/
theorem stageItem_of_key {l : List StandbyItem} (n : Nat) {p : PathItem} {k : Key} (op : ¬ 1 < p.op)
    (key : Key.ofCodes p.source p.dest = some k) (distinct : l.Pairwise fun a b => a.key ≠ b.key) :
    stageItem (l, n) p =
      if k ∈ l.map StandbyItem.key then
        .ok (l.map fun i => if i.key = k then { key := k, op := p.stagedOp } else i, n + p.clamps)
      else if 1536 ≤ l.length then .error .standbyFull
      else .ok (l ++ [{ key := k, op := p.stagedOp }], n + p.clamps) := by
  simp only [stageItem, if_neg op, key]
  by_cases held : k ∈ l.map StandbyItem.key
  · rw [if_pos held, if_neg fun h => absurd ((any_key_iff l k).mpr held) (by simp [h.1]), stageInto_of_held distinct held]
  · have absent : (l.any fun i => i.key == k) = false := by rw [← Bool.not_eq_true, any_key_iff]; exact held
    rw [if_neg held, absent]
    by_cases full : 1536 ≤ l.length
    · rw [if_pos ⟨rfl, full⟩, if_pos full]
    · rw [if_neg fun h => full h.2, if_neg full, stageInto_of_new held]

theorem stageCard_of_ready {h : Hand} {bytes : List Byte} {s : State} {items : List StandbyItem} {hd : Header}
    (kind : h.kind = some .stage) (ready : s.stager.standby = .ready items hd) : stageCard h bytes s = complete h
      { result := .standbyReady, remaining := h.count, detail := 0, returns := [(24, leBytes 2 items.length ++ leBytes 1 2)] } s := by
  simp only [stageCard, ready, refusedWhole, returnsAsStands, kind, standbyReturn, Standby.items, Standby.code]

theorem stageCard_of_open {h : Hand} {bytes : List Byte} {s : State} (unready : ∀ items hd, s.stager.standby ≠ .ready items hd) :
    stageCard h bytes s = stageItems h (pathItems h bytes) s := by
  cases standby : s.stager.standby with
  | ready items hd => exact absurd standby (unready items hd)
  | empty => simp only [stageCard, standby]
  | building items => simp only [stageCard, standby]

theorem stagedState_eq {b : Standby} (unready : ∀ items hd, b ≠ .ready items hd) (l : List StandbyItem) :
    stagedState b l = if b = .empty ∧ l = [] then .empty else .building l := by
  cases b with
  | ready items hd => exact absurd rfl (unready items hd)
  | building items => rw [if_neg fun h => by cases h.1]; rfl
  | empty => cases l with
    | nil => rfl
    | cons x xs => rw [if_neg fun h => by cases h.2]; rfl

/-- Settles O42: an item by `stageItem_of_key`, and the card by the state of the standby list. -/
theorem stageCardStagesItems : Obligations.StageCardStagesItems := by
  refine ⟨fun l n p distinct => ?_, fun size n i b => ⟨itemsOf_length size n b, itemsOf_getElem? size n i b⟩, fun b => rfl,
    fun σ α f i a as x => ⟨rfl, rfl⟩, fun s h bytes items hd settled acting ready => ?_, fun s h bytes settled acting unready => ?_⟩
  · by_cases op : 1 < p.op
    · rw [stageItem, if_pos op, if_pos ⟨by omega, by omega⟩]
    · have known : ¬ (p.op ≠ 0 ∧ p.op ≠ 1) := by omega
      cases key : Key.ofCodes p.source p.dest with
      | none => simp only [stageItem, if_neg op, if_neg known, key]
      | some k =>
        exact (stageItem_of_key n op key distinct).trans (if_neg known).symm
  · rw [exec_of_settled settled]
    exact congrArg _ ((onCard_of_acting _ acting).trans (stageCard_of_ready (actingOn_kind acting) ready))
  · intro r after
    have staged : stagedState s.stager.standby r.1.1 = after := stagedState_eq unready r.1.1
    have items : after.items = r.1.1 := by rw [← staged, stagedState_items]
    have card := (onCard_of_acting stageCard acting).trans (stageCard_of_open unready)
    simp only [stageItems] at card
    rw [exec_of_settled settled]
    refine congrArg _ (card.trans ?_)
    rw [itemCompletion_eq, standbyReturn]
    simp only [State.setStager_stager]
    rw [show (applyItems stageItem 0 (pathItems h bytes) (s.stager.standby.items, 0)) = r from rfl, staged, items]
    rfl

/-! ### STANDBY -/

theorem standbyCard_of_ready {h : Hand} {s : State} (ready : s.stager.standby.code = 2) : standbyCard h s
    = complete h (plainCompletion .standbyReady 0 (standbyReturn 32 s)) s := by
  cases standby : s.stager.standby with
  | ready items hd => simp only [standbyCard, standby]
  | _ => rw [standby] at ready; cases ready

theorem standbyCard_of_refused {h : Hand} {s : State} {r : Result} (unready : s.stager.standby.code ≠ 2)
    (refused : standbyHeader h = .error r) : standbyCard h s = complete h (plainCompletion r 0 (standbyReturn 32 s)) s := by
  cases standby : s.stager.standby with
  | ready items hd => exact absurd (congrArg Standby.code standby) unready
  | _ => simp only [standbyCard, standby, refused]

theorem standbyCard_of_header {h : Hand} {s : State} {hd : Header} (unready : s.stager.standby.code ≠ 2)
    (header : standbyHeader h = .ok hd) : standbyCard h s =
      complete h (plainCompletion .ok (if 60000 < h.arg 28 4 then 1 else 0)
        [(32, leBytes 2 s.stager.standby.items.length ++ leBytes 1 2)])
        (s.setStager { s.stager with standby := .ready s.stager.standby.items hd }) := by
  cases standby : s.stager.standby with
  | ready items hd => exact absurd (congrArg Standby.code standby) unready
  | _ => simp only [standbyCard, standby, header, standbyReturn, State.setStager_stager, Standby.items, Standby.code]; rfl

/-- Settles O43: the checks in their order. -/
theorem standbyCardFixesHeader : Obligations.StandbyCardFixesHeader := by
  intro s h bytes settled acting cue mode fade n done
  have card : exec .standby s = .next (standbyCard h s) :=
    (exec_of_settled settled _).trans (congrArg _ (onCard_of_acting _ acting))
  rw [card]
  refine congrArg _ ?_
  by_cases ready : s.stager.standby.code = 2
  · rw [if_pos ready, standbyCard_of_ready ready, standbyReturn, ready]
    rfl
  · rw [if_neg ready]
    by_cases unnumbered : cue = 0
    · rw [if_pos unnumbered, standbyCard_of_refused (r := .range) ready (if_pos unnumbered)]
      rfl
    · rw [if_neg unnumbered]
      by_cases unknown : 1 < mode
      · rw [if_pos (by omega), standbyCard_of_refused (r := .badField) ready ((if_neg unnumbered).trans (if_pos unknown))]
        rfl
      · rw [if_neg (by omega), standbyCard_of_header ready ((if_neg unnumbered).trans (if_neg unknown))]
        rfl

end Sys2Proof.Machine
end

section
/-! A GO from a card or the cue line, and the capacity check (R51 to R62). -/

namespace Sys2Proof.Machine

/-! ### The capacity check -/

/-- The entries a destination would have after the new keys up to one, those before the list counted in. -/
def destAfter (table : List Entry) (seen ks : List Key) (code : Nat) : Nat :=
  destCount table code + (seen.countP fun k => k.destCode == code) + ks.countP fun k => k.destCode == code

theorem destAfter_cons (table : List Entry) (seen ks : List Key) (k : Key) (code : Nat) :
    destAfter table seen (k :: ks) code = destAfter table (k :: seen) ks code := by
  rw [destAfter, destAfter, List.countP_cons, List.countP_cons]
  omega

theorem destAfter_self (table : List Entry) (seen : List Key) (k : Key) : destAfter table seen [k] k.destCode
    = destCount table k.destCode + (seen.countP fun j => j.destCode == k.destCode) + 1 := by
  simp [destAfter]

theorem destAfter_of_absent {table : List Entry} {seen ks : List Key} {k : Key} (absent : ∀ j ∈ ks, j.destCode ≠ k.destCode) :
    destAfter table (k :: seen) ks k.destCode
      = destCount table k.destCode + (seen.countP fun j => j.destCode == k.destCode) + 1 := by
  have none : (ks.countP fun j => j.destCode == k.destCode) = 0 := List.countP_eq_zero.mpr (by simpa using absent)
  rw [← destAfter_cons, destAfter, List.countP_cons, none]
  simp

/-- No new key is too many exactly where every destination of a new key has room for them all (R53). -/
theorem fullDest_eq_none_iff (table : List Entry) (seen ks : List Key) :
    fullDest table seen ks = none ↔ ∀ k ∈ ks, destAfter table seen ks k.destCode ≤ 24 := by
  induction ks generalizing seen with
  | nil => exact ⟨fun _ _ listed => absurd listed List.not_mem_nil, fun _ => rfl⟩
  | cons x ks ih =>
    have split : (∀ k ∈ x :: ks, destAfter table seen (x :: ks) k.destCode ≤ 24)
        ↔ destCount table x.destCode + (seen.countP fun j => j.destCode == x.destCode) + 1 ≤ 24
          ∧ ∀ k ∈ ks, destAfter table (x :: seen) ks k.destCode ≤ 24 := by
      simp only [destAfter_cons, List.forall_mem_cons]
      refine and_congr_left fun rest => ⟨fun first => ?_, fun first => ?_⟩
      · rw [destAfter, List.countP_cons_of_pos (by simp)] at first
        omega
      · by_cases absent : ∀ j ∈ ks, j.destCode ≠ x.destCode
        · rw [destAfter_of_absent absent]
          exact first
        · push Not at absent
          obtain ⟨j, listed, same⟩ := absent
          rw [← same]
          exact rest j listed
    rw [fullDest, split]
    by_cases excess : 24 < destCount table x.destCode + (seen.countP fun j => j.destCode == x.destCode) + 1
    · rw [if_pos excess]
      exact ⟨fun h => absurd h (by simp), fun h => by omega⟩
    · rw [if_neg excess, ih (x :: seen)]
      exact ⟨fun h => ⟨by omega, h⟩, fun h => h.2⟩

/-- The destination named is that of the first new key that is too many for it (R53). -/
theorem fullDest_eq_some {table : List Entry} {seen ks : List Key} {d : Nat} (h : fullDest table seen ks = some d) :
    ∃ i k, ks[i]? = some k ∧ d = k.destCode ∧ 24 < destAfter table seen (ks.take (i + 1)) k.destCode
      ∧ ∀ j l, j < i → ks[j]? = some l → destAfter table seen (ks.take (j + 1)) l.destCode ≤ 24 := by
  induction ks generalizing seen with
  | nil => cases h
  | cons x ks ih =>
    rw [fullDest] at h
    by_cases excess : 24 < destCount table x.destCode + (seen.countP fun j => j.destCode == x.destCode) + 1
    · rw [if_pos excess] at h
      cases h
      refine ⟨0, x, rfl, rfl, ?_, fun _ _ below _ => absurd below (Nat.not_lt_zero _)⟩
      rw [List.take_succ_cons, List.take_zero, destAfter_self]
      exact excess
    · rw [if_neg excess] at h
      obtain ⟨i, k, listed, code, beyond, before⟩ := ih h
      refine ⟨i + 1, k, listed, code, ?_, fun j l below at_j => ?_⟩
      · rw [List.take_succ_cons, destAfter_cons]
        exact beyond
      · cases j with
        | zero =>
          cases at_j
          rw [List.take_succ_cons, List.take_zero, destAfter_self]
          omega
        | succ j =>
          rw [List.take_succ_cons, destAfter_cons]
          exact before j l (by omega) at_j

theorem destAfter_nil (table : List Entry) (ks : List Key) (code : Nat) :
    destAfter table [] ks code = destCount table code + ks.countP fun k => k.destCode == code := by
  rw [destAfter, List.countP_nil, Nat.add_zero]

/-! ### A GO -/

theorem takeGo_of_unready (src : GoSource) {s : State} (unready : ∀ items hd, s.stager.standby ≠ .ready items hd) :
    takeGo src s = (refuseNotReady src s, { result := .notReady, dest := 0, executed := 0, created := 0 }) := by
  cases standby : s.stager.standby with
  | ready items hd => exact absurd standby (unready items hd)
  | _ => simp only [takeGo, standby]

section
variable (src : GoSource) {s : State} {items : List StandbyItem} {hd : Header} (ready : s.stager.standby = .ready items hd)
include ready

theorem takeGo_of_refused {r : Result} {d : Nat} (refused : capacityCheck s.table items = some (r, d)) :
    takeGo src s = (refuseCapacity src r d s, { result := r, dest := d, executed := 0, created := 0 }) := by
  simp only [takeGo, ready, refused]

theorem takeGo_of_fitting (fits : capacityCheck s.table items = none) : takeGo src s = (executeScene src items hd s,
    { result := .ok, dest := 0, executed := hd.cue, created := (newKeys s.table items).length }) := by
  simp only [takeGo, ready, fits]

end

theorem announceGo_of_fade {fade : Nat} (h : 0 < fade) (s : State) :
    announceGo fade s = progressOccasion (raise .stager .cue s) := by
  rw [announceGo, if_neg (by omega)]

theorem announceGo_of_cut (s : State) :
    announceGo 0 s = progressOccasion (raise .stager .fade (progressOccasion (raise .stager .cue s))) := by
  rw [announceGo, if_pos rfl]

/-- Settles O45: a GO by the standby list and the capacity check, and the check by the destinations of the new keys. -/
theorem goExecutesOrIsRefused : Obligations.GoExecutesOrIsRefused := by
  refine ⟨fun s src settled => ⟨fun h bytes acting => ?_, fun line awake => ?_, fun unready => ?_, fun items hd r d ready refused => ?_,
    fun items hd ready fits => ?_⟩, fun table items => ?_⟩
  · intro r
    rw [exec_of_settled settled]
    exact congrArg _ (onCard_of_acting _ acting)
  · have taken : exec .lineGo s = .next (if 0 < s.stager.lineGos ∧ s.engine.state ≠ .loading then takeLineGo s else s) :=
      exec_of_settled settled _
    rw [taken, if_pos ⟨line, awake⟩]
    rfl
  · exact takeGo_of_unready src unready
  · exact takeGo_of_refused src ready refused
  · intro merged cued
    rw [takeGo_of_fitting src ready fits, executeScene]
    by_cases fades : 0 < hd.fade
    · rw [announceGo_of_fade fades, if_pos fades]
      rfl
    · have cut : hd.fade = 0 := by omega
      rw [if_neg fades]
      exact congrArg (·, _) ((congrArg (announceGo · _) cut).trans (announceGo_of_cut _))
  · intro new into upTo
    refine ⟨?_, fun excess => if_pos excess, fun room => ?_, hasKey_iff table, fun d => List.countP_eq_length_filter⟩
    · refine congrArg (List.map _) (List.filter_congr fun i _ => ?_)
      rw [isNewKey]
      cases i.op <;> rfl
    · have check : capacityCheck table items = (fullDest table [] new).map fun d => (Result.destFull, d) :=
        if_neg (Nat.not_lt.mpr room)
      rw [check]
      refine ⟨?_, fun r d refused => ?_⟩
      · rw [Option.map_eq_none_iff, fullDest_eq_none_iff]
        simp only [destAfter_nil]
        rfl
      · obtain ⟨_, full, named⟩ := Option.map_eq_some_iff.mp refused
        cases named
        obtain ⟨i, k, listed, code, beyond, before⟩ := fullDest_eq_some full
        simp only [destAfter_nil] at beyond before
        exact ⟨rfl, i, k, listed, code, beyond, before⟩

end Sys2Proof.Machine
end

section
/-! What the merge makes of every entry, the movement it hands each, and cuts (R55 to R57, R68 to R78). -/

namespace Sys2Proof.Machine

/-! ### Movements at their shortest -/

/-- An entry that lands at once with a delay in use (R71, R78). -/
def Entry.cutTo (d : Nat) (e : Entry) : Entry := { e with delay := d, current := e.target, motion := .settled }

theorem dipTo_zero (d : Nat) (e : Entry) : dipTo 0 d e = e.cutTo d := rfl

theorem ordinaryRamp_zero (e : Entry) : ordinaryRamp 0 e = e.cutTo e.delay := rfl

theorem ordinaryRamp_of_pos {n : Nat} (h : 1 ≤ n) (e : Entry) :
    ordinaryRamp n e = { e with motion := .ramping (Int.tdiv (e.target - e.current) n) n } := if_neg (by omega)

theorem dipTo_one (d : Nat) (e : Entry) :
    dipTo 1 d e = { e with delay := d, motion := .ramping (Int.tdiv (e.target - e.current) (1 : Nat)) 1 } := rfl

theorem dipTo_of_two {n : Nat} (h : 2 ≤ n) (d : Nat) (e : Entry) :
    dipTo n d e = { e with motion := .dipDown (Int.tdiv (-e.current) (n / 2 : Nat)) (n / 2) d (n - n / 2) } := if_neg (by omega)

theorem settle1_of_arrived {e : Entry} (h : e.target = e.current) : settle1 e = e.cutTo e.delay := by
  rw [settle1, Entry.cutTo, h]

/-! ### The handover of a merge -/

section
variable (n : Nat) (asked : Option Nat) {e : Entry}

theorem goMovement_of_dipDown {step : Int} {r p u : Nat} (h : e.motion = .dipDown step r p u) :
    goMovement n asked e = if asked.getD p ≠ e.delay then dipTo n (asked.getD p) e else ordinaryRamp n e := by
  cases asked <;> simp only [goMovement, h, Option.getD, if_true]

theorem goMovement_of_dipUp {step : Int} {r : Nat} (h : e.motion = .dipUp step r) :
    goMovement n asked e = if asked.getD e.delay ≠ e.delay then dipTo n (asked.getD e.delay) e else ordinaryRamp n e := by
  cases asked <;> simp only [goMovement, h, Option.getD, if_true]

theorem goMovement_of_straight (h : e.motion = .settled ∨ ∃ step r, e.motion = .ramping step r) :
    goMovement n asked e = if asked.getD e.delay ≠ e.delay then dipTo n (asked.getD e.delay) e
      else if e.target ≠ e.current then ordinaryRamp n e else settle1 e := by
  rcases h with h | ⟨step, r, h⟩
  · cases asked <;> simp only [goMovement, h, Option.getD, Bool.false_eq_true, if_false]
  · cases asked <;> simp only [goMovement, h, Option.getD, Bool.false_eq_true, if_false]

theorem handMovement_of_staying (h : e.motion.code ≠ 4) : handMovement n asked e = some (goMovement n asked e) := by
  cases hm : e.motion with
  | retiring => rw [hm] at h; exact absurd rfl h
  | _ => simp only [handMovement, hm]

theorem handMovement_of_retiring {step : Int} {r : Nat} (h : e.motion = .retiring step r) :
    handMovement n asked e = retiringRamp n e := by
  simp only [handMovement, h]

end

/-- The delay an entry comes to at a merge: the one asked, else the pending one of its way down, else its own (R74, R75). -/
def Entry.wanted (asked : Option Nat) (e : Entry) : Nat :=
  asked.getD (match e.motion with
    | .dipDown _ _ p _ => p
    | .settled | .ramping _ _ | .dipUp _ _ | .retiring _ _ => e.delay)

/-- Over a fade of 0 an entry that stays lands at once (R78). -/
theorem goMovement_zero {asked : Option Nat} {e : Entry} (h : e.motion.code ≠ 4) :
    goMovement 0 asked e = e.cutTo (e.wanted asked) := by
  cases hm : e.motion with
  | retiring => rw [hm] at h; exact absurd rfl h
  | dipDown step r p u =>
    rw [goMovement_of_dipDown 0 asked hm, dipTo_zero, ordinaryRamp_zero, Entry.wanted, hm]
    split
    · rfl
    · next kept => rw [not_not.mp kept]
  | dipUp step r =>
    rw [goMovement_of_dipUp 0 asked hm, dipTo_zero, ordinaryRamp_zero, Entry.wanted, hm]
    split
    · rfl
    · next kept => rw [not_not.mp kept]
  | settled | ramping =>
    rw [goMovement_of_straight 0 asked (by simp [hm]), dipTo_zero, ordinaryRamp_zero, Entry.wanted, hm]
    split
    · rfl
    · next kept =>
      rw [not_not.mp kept]
      split
      · rfl
      · next arrived => exact settle1_of_arrived (not_not.mp arrived)

/-- What a merge over `n` blocks hands an entry that asks for a delay, `still` being its movement where the delay is in use (R57, R74). -/
def Entry.handed (n d : Nat) (still : Motion) (e : Entry) : Entry :=
  if d = e.delay then { e with motion := still }
  else if n = 1 then { e with delay := d, motion := .ramping (Int.tdiv (e.target - e.current) n) n }
  else { e with motion := .dipDown (Int.tdiv (-e.current) (n / 2 : Nat)) (n / 2) d (n - n / 2) }

theorem handed_of_pos {n d : Nat} (positive : 1 ≤ n) {e f : Entry} {still : Motion} (rest : f = { e with motion := still }) :
    (if d ≠ e.delay then dipTo n d e else f) = e.handed n d still := by
  rw [Entry.handed, rest]
  by_cases kept : d = e.delay
  · rw [if_pos kept, if_neg (by simp [kept])]
  · rw [if_neg kept, if_pos kept]
    by_cases one : n = 1
    · rw [if_pos one, one]
      exact dipTo_one d e
    · rw [if_neg one, dipTo_of_two (by omega)]

theorem goMovement_of_pos {n : Nat} (positive : 1 ≤ n) (asked : Option Nat) {e : Entry} (h : e.motion.code ≠ 4) :
    goMovement n asked e = e.handed n (e.wanted asked)
      (if (e.motion.code = 0 ∨ e.motion.code = 1) ∧ e.target = e.current then .settled
        else .ramping (Int.tdiv (e.target - e.current) n) n) := by
  have ramp := ordinaryRamp_of_pos positive e
  cases hm : e.motion with
  | retiring => rw [hm] at h; exact absurd rfl h
  | dipDown step r p u =>
    rw [goMovement_of_dipDown n asked hm, handed_of_pos positive ramp, Entry.wanted, hm, if_neg (by simp [Motion.code])]
  | dipUp step r =>
    rw [goMovement_of_dipUp n asked hm, handed_of_pos positive ramp, Entry.wanted, hm, if_neg (by simp [Motion.code])]
  | settled | ramping =>
    rw [goMovement_of_straight n asked (by simp [hm]), Entry.wanted, hm]
    refine handed_of_pos positive ?_
    by_cases arrived : e.target = e.current
    · rw [if_neg (by simp [arrived]), if_pos (by simp [Motion.code, arrived]), settle1]
    · rw [if_pos arrived, if_neg (by simp [arrived]), ramp]

/-! ### What the handover keeps -/

/-- The handover keeps key, requested gain and last cue, and an entry it leaves is RETIRING exactly where it was, then over a fade. -/
theorem handMovement_keeps {n : Nat} {asked : Option Nat} {e e' : Entry} (h : handMovement n asked e = some e') :
    e'.key = e.key ∧ e'.requested = e.requested ∧ e'.lastCue = e.lastCue ∧ (e'.motion.code = 4 ↔ e.motion.code = 4)
      ∧ (e.motion.code = 4 → 0 < n) := by
  by_cases staying : e.motion.code = 4
  · cases hm : e.motion with
    | retiring step r =>
      rw [handMovement_of_retiring n asked hm, retiringRamp] at h
      by_cases cut : n = 0
      · rw [if_pos cut] at h
        cases h
      · rw [if_neg cut] at h
        cases h
        exact ⟨rfl, rfl, rfl, Iff.rfl, fun _ => by omega⟩
    | _ => rw [hm] at staying; cases staying
  · rw [handMovement_of_staying n asked staying] at h
    obtain rfl := Option.some.inj h
    suffices moved : ∃ d c m, goMovement n asked e = { e with delay := d, current := c, motion := m } ∧ m.code ≠ 4 by
      obtain ⟨d, c, m, moves, code⟩ := moved
      rw [moves]
      exact ⟨rfl, rfl, rfl, iff_of_false code staying, fun retiring => absurd retiring staying⟩
    by_cases cut : n = 0
    · rw [cut, goMovement_zero staying]
      exact ⟨_, _, _, rfl, by simp [Motion.code]⟩
    · rw [goMovement_of_pos (by omega) asked staying, Entry.handed]
      split
      · refine ⟨_, _, _, rfl, ?_⟩
        split <;> simp [Motion.code]
      · split
        · exact ⟨_, _, _, rfl, by simp [Motion.code]⟩
        · exact ⟨_, _, _, rfl, by simp [Motion.code]⟩

/-- An entry leaves at the merge exactly where it is RETIRING and the fade is 0 (R16). -/
theorem handMovement_eq_none_iff (n : Nat) (asked : Option Nat) (e : Entry) :
    handMovement n asked e = none ↔ e.motion.code = 4 ∧ n = 0 := by
  by_cases staying : e.motion.code = 4
  · cases hm : e.motion with
    | retiring step r =>
      rw [handMovement_of_retiring n asked hm, retiringRamp]
      by_cases cut : n = 0
      · rw [if_pos cut]
        exact iff_of_true rfl ⟨rfl, cut⟩
      · rw [if_neg cut]
        exact iff_of_false (by simp) fun h => cut h.2
    | _ => rw [hm] at staying; cases staying
  · rw [handMovement_of_staying n asked staying]
    exact iff_of_false (by simp) fun h => staying h.1

/-! ### The budget on a table -/

/-- The full budget computation sets targets entry by entry, in place (R36). -/
theorem fullBudget_eq_map (b : Budget) (table : List Entry) : ∃ f : Entry → Entry,
    fullBudget b table = table.map f ∧ ∀ e, f e = { e with target := (f e).target } := by
  have tail : ∀ e, tailClamped table e = { e with target := (tailClamped table e).target } := fun e => by
    unfold tailClamped
    split <;> rfl
  have emitter : ∀ e, emitterClamped b.ceilings (fun _ => true) (tailStage table) e
      = { e with target := (emitterClamped b.ceilings (fun _ => true) (tailStage table) e).target } := fun e => by
    unfold emitterClamped
    split
    · split <;> rfl
    · rfl
  refine ⟨emitterClamped b.ceilings (fun _ => true) (tailStage table) ∘ tailClamped table, ?_, fun e => ?_⟩
  · rw [fullBudget, emitterStage_eq, tailStage_eq, List.map_map]
  · rw [Function.comp_apply, emitter, tail]

/-! ### The scene's entries before the budget -/

/-- The item of a scene that names a key. -/
def itemFor (items : List StandbyItem) (k : Key) : Option StandbyItem := items.find? fun i => i.key == k

theorem itemFor_eq_some {items : List StandbyItem} {k : Key} {i : StandbyItem} (h : itemFor items k = some i) :
    i ∈ items ∧ i.key = k := ⟨List.mem_of_find?_eq_some h, by simpa using List.find?_some h⟩

theorem itemFor_eq_none_iff (items : List StandbyItem) (k : Key) : itemFor items k = none ↔ ∀ i ∈ items, i.key ≠ k := by
  simp [itemFor]

theorem itemFor_of_mem {items : List StandbyItem} (distinct : items.Pairwise fun x y => x.key ≠ y.key) {i : StandbyItem} (h : i ∈ items) :
    itemFor items i.key = some i := find_item items distinct i h

/-- In a scene of different keys, what names a key is its item. -/
theorem namedBy_of_item {items : List StandbyItem} (distinct : items.Pairwise fun x y => x.key ≠ y.key) {k : Key} {i : StandbyItem}
    (h : itemFor items k = some i) (set : Bool) :
    namedBy set items k = match i.op with | .set _ _ => set | .retire => !set := by
  obtain ⟨listed, key⟩ := itemFor_eq_some h
  have own : ∀ j ∈ items, j.key = k → j = i := fun j held same => by
    have found := itemFor_of_mem distinct held
    rw [same, h] at found
    exact (Option.some.inj found).symm
  rw [namedBy, Bool.eq_iff_iff, List.any_eq_true]
  constructor
  · rintro ⟨j, held, meets⟩
    obtain ⟨same, op⟩ := Bool.and_eq_true_iff.mp meets
    obtain rfl := own j held (by simpa using same)
    exact op
  · intro op
    exact ⟨i, listed, Bool.and_eq_true_iff.mpr ⟨by simpa using key, op⟩⟩

theorem namedBy_of_unnamed {items : List StandbyItem} {k : Key} (h : itemFor items k = none) (set : Bool) : namedBy set items k = false := by
  rw [itemFor_eq_none_iff] at h
  rw [namedBy, ← Bool.not_eq_true, List.any_eq_true]
  rintro ⟨j, held, meets⟩
  exact h j held (by simpa using (Bool.and_eq_true_iff.mp meets).1)

/-- An entry of the table as the scene brings it to the budget (R15, R17, R55, R56). -/
def Entry.inScene (items : List StandbyItem) (hd : Header) (o : Entry) : Entry :=
  if retires hd.mode items o.key then (Entry.touched hd.cue items o).retire else Entry.touched hd.cue items o

section
variable {items : List StandbyItem} (distinct : items.Pairwise fun x y => x.key ≠ y.key) (hd : Header)
include distinct

theorem retires_of_set {k : Key} {g : Int} {d : Nat} (h : itemFor items k = some { key := k, op := .set g d }) :
    retires hd.mode items k = false := by
  cases mode : hd.mode with
  | replace => simp only [retires, namedBy_of_item distinct h, Bool.not_true]
  | amend => simp only [retires, namedBy_of_item distinct h]

theorem retires_of_retire {k : Key} (h : itemFor items k = some { key := k, op := .retire }) : retires hd.mode items k = true := by
  cases mode : hd.mode with
  | replace => simp only [retires, namedBy_of_item distinct h, Bool.not_true, Bool.not_false]
  | amend => simp only [retires, namedBy_of_item distinct h, Bool.not_false]

end

theorem retires_of_unnamed {items : List StandbyItem} {k : Key} (h : itemFor items k = none) (hd : Header) :
    retires hd.mode items k = decide (hd.mode = .replace) := by
  cases mode : hd.mode with
  | replace => simp only [retires, namedBy_of_unnamed h, Bool.not_false]; rfl
  | amend => simp only [retires, namedBy_of_unnamed h]; rfl

theorem touched_key (cue : Nat) (items : List StandbyItem) (o : Entry) : (Entry.touched cue items o).key = o.key := by
  unfold Entry.touched
  split <;> rfl

/-- The entries that come to the budget: those of the table and the new ones (R55, R56). -/
theorem mem_requestedTable {table : List Entry} {items : List StandbyItem} (ordered : table.Pairwise fun x y => x.key.rank < y.key.rank)
    (distinct : items.Pairwise fun x y => x.key ≠ y.key) (hd : Header) (e : Entry) : e ∈ requestedTable table items hd ↔
      (∃ o ∈ table, e = o.inScene items hd)
        ∨ ∃ k g d, { key := k, op := .set g d } ∈ items ∧ hasKey table k = false ∧ e = newEntry hd.cue k g d := by
  have news : ∀ k g d, { key := k, op := .set g d } ∈ items →
      (if retires hd.mode items (newEntry hd.cue k g d).key then (newEntry hd.cue k g d).retire else newEntry hd.cue k g d)
        = newEntry hd.cue k g d := fun k g d listed => by
    rw [newEntry, retires_of_set distinct hd (g := g) (d := d) (itemFor_of_mem distinct listed), if_neg (by simp)]
  rw [requestedTable, List.mem_map]
  simp only [mem_foldl_mergeItem hd.cue items table ordered distinct]
  constructor
  · rintro ⟨x, ⟨o, held, rfl⟩ | ⟨k, g, d, listed, absent, rfl⟩, rfl⟩
    · exact .inl ⟨o, held, by rw [touched_key, Entry.inScene]⟩
    · exact .inr ⟨k, g, d, listed, absent, news k g d listed⟩
  · rintro (⟨o, held, rfl⟩ | ⟨k, g, d, listed, absent, rfl⟩)
    · exact ⟨_, .inl ⟨o, held, rfl⟩, by rw [touched_key, Entry.inScene]⟩
    · exact ⟨_, .inr ⟨k, g, d, listed, absent, rfl⟩, news k g d listed⟩

theorem requestedTable_ordered {table : List Entry} (items : List StandbyItem) (hd : Header)
    (ordered : table.Pairwise fun x y => x.key.rank < y.key.rank) :
    (requestedTable table items hd).Pairwise fun x y => x.key.rank < y.key.rank := by
  have key : ∀ e : Entry, (if retires hd.mode items e.key then e.retire else e).key = e.key := fun e => by split <;> rfl
  rw [requestedTable, List.pairwise_map]
  simp only [key]
  exact foldl_mergeItem_ordered hd.cue items table ordered

section
variable {items : List StandbyItem} (distinct : items.Pairwise fun x y => x.key ≠ y.key) (hd : Header) {o : Entry}
include distinct

theorem inScene_of_set {g : Int} {d : Nat} (h : itemFor items o.key = some { key := o.key, op := .set g d }) :
    o.inScene items hd = Entry.asked hd.cue g o := by
  rw [Entry.inScene, retires_of_set distinct hd h, if_neg (by simp), Entry.touched, show items.find? _ = _ from h]

theorem inScene_of_retire (h : itemFor items o.key = some { key := o.key, op := .retire }) : o.inScene items hd = o.retire := by
  rw [Entry.inScene, retires_of_retire distinct hd h, if_pos rfl, Entry.touched, show items.find? _ = _ from h]

end

theorem inScene_of_unnamed {items : List StandbyItem} (hd : Header) {o : Entry} (h : itemFor items o.key = none) :
    o.inScene items hd = if hd.mode = .replace then o.retire else o := by
  rw [Entry.inScene, retires_of_unnamed h, Entry.touched, show items.find? _ = _ from h]
  simp only [decide_eq_true_eq]

end Sys2Proof.Machine
end

section
/-! The merged table (R55 to R57) and cuts (R78). -/

namespace Sys2Proof.Machine

theorem asked_code (cue : Nat) (g : Int) (o : Entry) : (Entry.asked cue g o).motion.code ≠ 4 := by
  simp only [Entry.asked]
  cases o.motion <;> simp [Motion.code]

/-- The merged table holds what the handover leaves of the entries after the budget (R57). -/
theorem mem_mergedTable {b : Budget} {table : List Entry} {items : List StandbyItem} {hd : Header} (e : Entry) :
    e ∈ mergedTable b table items hd ↔ ∃ o ∈ fullBudget b (requestedTable table items hd),
      handMovement hd.fade (askedDelay items o.key) o = some e := List.mem_filterMap

/-- An entry of the merged table comes from one the scene brought to the budget, with its key, requested gain and last cue, RETIRING
where it was and then only over a fade. -/
theorem mergedTable_origin {b : Budget} {table : List Entry} {items : List StandbyItem} {hd : Header} {e : Entry}
    (h : e ∈ mergedTable b table items hd) : ∃ r ∈ requestedTable table items hd, e.key = r.key ∧ e.requested = r.requested
      ∧ e.lastCue = r.lastCue ∧ (e.motion.code = 4 ↔ r.motion.code = 4) ∧ (r.motion.code = 4 → 0 < hd.fade) := by
  obtain ⟨f, budget, sets⟩ := fullBudget_eq_map b (requestedTable table items hd)
  rw [mem_mergedTable, budget] at h
  obtain ⟨o, listed, handed⟩ := h
  obtain ⟨r, held, rfl⟩ := List.mem_map.mp listed
  obtain ⟨key, requested, cue, code, fades⟩ := handMovement_keeps handed
  rw [sets r] at key requested cue code fades
  exact ⟨r, held, key, requested, cue, code, fades⟩

/-- An entry the scene brings to the budget stays in the merged table but where it is RETIRING over a fade of 0 (R16). -/
theorem hasKey_mergedTable (b : Budget) (table : List Entry) (items : List StandbyItem) (hd : Header) (k : Key) :
    hasKey (mergedTable b table items hd) k = true
      ↔ ∃ r ∈ requestedTable table items hd, r.key = k ∧ ¬ (r.motion.code = 4 ∧ hd.fade = 0) := by
  obtain ⟨f, budget, sets⟩ := fullBudget_eq_map b (requestedTable table items hd)
  have code : ∀ r, (f r).motion.code = r.motion.code := fun r => by rw [sets r]
  rw [hasKey_iff]
  constructor
  · rintro ⟨e, listed, rfl⟩
    obtain ⟨r, held, key, _, _, _, fades⟩ := mergedTable_origin listed
    exact ⟨r, held, key.symm, fun gone => absurd (fades gone.1) (by omega)⟩
  · rintro ⟨r, held, rfl, stays⟩
    have left : handMovement hd.fade (askedDelay items (f r).key) (f r) ≠ none := by
      rw [ne_eq, handMovement_eq_none_iff, code]
      exact stays
    obtain ⟨e, handed⟩ := Option.ne_none_iff_exists'.mp left
    refine ⟨e, (mem_mergedTable e).mpr ⟨f r, by rw [budget]; exact List.mem_map_of_mem held, handed⟩, ?_⟩
    rw [(handMovement_keeps handed).1, sets r]

theorem inScene_key (items : List StandbyItem) (hd : Header) (o : Entry) : (o.inScene items hd).key = o.key := by
  rw [Entry.inScene]
  split
  · exact touched_key hd.cue items o
  · exact touched_key hd.cue items o

theorem mode_amend_iff (m : Mode) : m = .amend ↔ ¬ m = .replace := by cases m <;> simp

section
variable {table : List Entry} {items : List StandbyItem} {hd : Header} (ordered : table.Pairwise fun x y => x.key.rank < y.key.rank)
  (distinct : items.Pairwise fun x y => x.key ≠ y.key)
include ordered distinct

/-- The keys of the merged table over a fade (R16, R55, R56). -/
theorem hasKey_merged_of_fade (b : Budget) (fades : 0 < hd.fade) (k : Key) : hasKey (mergedTable b table items hd) k = true
    ↔ hasKey table k = true ∨ ∃ i ∈ items, i.key = k ∧ ∃ g d, i.op = .set g d := by
  rw [hasKey_mergedTable, hasKey_iff]
  constructor
  · rintro ⟨r, held, rfl, _⟩
    rcases (mem_requestedTable ordered distinct hd r).mp held with ⟨o, listed, rfl⟩ | ⟨k, g, d, listed, _, rfl⟩
    · exact .inl ⟨o, listed, (inScene_key items hd o).symm⟩
    · exact .inr ⟨_, listed, rfl, g, d, rfl⟩
  · have stays : ∀ r : Entry, ¬ (r.motion.code = 4 ∧ hd.fade = 0) := fun r gone => by omega
    have ofTable : ∀ o ∈ table, ∃ r ∈ requestedTable table items hd, r.key = o.key ∧ ¬ (r.motion.code = 4 ∧ hd.fade = 0) :=
      fun o listed => ⟨o.inScene items hd, (mem_requestedTable ordered distinct hd _).mpr (.inl ⟨o, listed, rfl⟩), inScene_key items hd o, stays _⟩
    rintro (⟨o, listed, rfl⟩ | ⟨⟨k, _⟩, listed, rfl, g, d, rfl⟩)
    · exact ofTable o listed
    · by_cases held : hasKey table k = true
      · obtain ⟨o, inTable, key⟩ := (hasKey_iff table _).mp held
        obtain ⟨r, r_held, r_key, r_stays⟩ := ofTable o inTable
        exact ⟨r, r_held, r_key.trans key, r_stays⟩
      · exact ⟨newEntry hd.cue k g d, (mem_requestedTable ordered distinct hd _).mpr
          (.inr ⟨k, g, d, listed, by simpa using held, rfl⟩), rfl, stays _⟩

/-- The keys of the merged table over a fade of 0 (R16, R78). -/
theorem hasKey_merged_of_cut (b : Budget) (cut : hd.fade = 0) (k : Key) : hasKey (mergedTable b table items hd) k = true
    ↔ (∃ i ∈ items, i.key = k ∧ ∃ g d, i.op = .set g d)
      ∨ (hd.mode = .amend ∧ (∀ i ∈ items, i.key ≠ k) ∧ ∃ o ∈ table, o.key = k ∧ o.motion.code ≠ 4) := by
  rw [hasKey_mergedTable]
  constructor
  · rintro ⟨r, held, rfl, stays⟩
    have code : r.motion.code ≠ 4 := fun retiring => stays ⟨retiring, cut⟩
    rcases (mem_requestedTable ordered distinct hd r).mp held with ⟨o, listed, rfl⟩ | ⟨k, g, d, listed, _, rfl⟩
    · cases item : itemFor items o.key with
      | none =>
        rw [inScene_of_unnamed hd item] at code ⊢
        by_cases mode : hd.mode = .replace
        · rw [if_pos mode] at code
          exact absurd rfl code
        · rw [if_neg mode] at code ⊢
          exact .inr ⟨(mode_amend_iff _).mpr mode, (itemFor_eq_none_iff items o.key).mp item, o, listed, rfl, code⟩
      | some i =>
        obtain ⟨inScene, key⟩ := itemFor_eq_some item
        obtain ⟨key', op⟩ := i
        obtain rfl : key' = o.key := key
        cases op with
        | set g d =>
          rw [inScene_of_set distinct hd item]
          exact .inl ⟨_, inScene, rfl, g, d, rfl⟩
        | retire =>
          rw [inScene_of_retire distinct hd item] at code
          exact absurd rfl code
    · exact .inl ⟨_, listed, rfl, g, d, rfl⟩
  · rintro (⟨⟨k, _⟩, listed, rfl, g, d, rfl⟩ | ⟨amend, unnamed, o, listed, rfl, code⟩)
    · by_cases held : hasKey table k = true
      · obtain ⟨o, inTable, rfl⟩ := (hasKey_iff table _).mp held
        have item := itemFor_of_mem distinct listed
        refine ⟨o.inScene items hd, (mem_requestedTable ordered distinct hd _).mpr (.inl ⟨o, inTable, rfl⟩), ?_⟩
        rw [inScene_of_set distinct hd item]
        exact ⟨rfl, fun gone => asked_code hd.cue g o gone.1⟩
      · exact ⟨newEntry hd.cue k g d, (mem_requestedTable ordered distinct hd _).mpr
          (.inr ⟨k, g, d, listed, by simpa using held, rfl⟩), rfl, fun gone => absurd gone.1 (by simp [newEntry, Motion.code])⟩
    · have item := (itemFor_eq_none_iff items o.key).mpr unnamed
      refine ⟨o, (mem_requestedTable ordered distinct hd _).mpr (.inl ⟨o, listed, ?_⟩), rfl, fun gone => code gone.1⟩
      rw [inScene_of_unnamed hd item, if_neg ((mode_amend_iff _).mp amend)]

/-- What the merge leaves of an entry that a SET item names (R17, R55). -/
theorem merged_of_set {b : Budget} {e : Entry} (h : e ∈ mergedTable b table items hd) {g : Int} {d : Nat}
    (item : itemFor items e.key = some { key := e.key, op := .set g d }) :
    e.requested = g ∧ e.lastCue = hd.cue ∧ e.motion.code ≠ 4 := by
  obtain ⟨r, held, key, requested, cue, code, _⟩ := mergedTable_origin h
  rw [requested, cue, ne_eq, code]
  rcases (mem_requestedTable ordered distinct hd r).mp held with ⟨o, _, rfl⟩ | ⟨k, g', d', listed, _, rfl⟩
  · have same : e.key = o.key := key.trans (inScene_key items hd o)
    rw [same] at item
    rw [inScene_of_set distinct hd item]
    exact ⟨rfl, rfl, asked_code hd.cue g o⟩
  · have same : e.key = k := key
    rw [same, itemFor_of_mem distinct listed] at item
    cases item
    exact ⟨rfl, rfl, by simp [newEntry, Motion.code]⟩

/-- What the merge leaves of an entry that no SET item names (R15, R56). -/
theorem merged_of_no_set {b : Budget} {e : Entry} (h : e ∈ mergedTable b table items hd)
    (item : ∀ g d, itemFor items e.key ≠ some { key := e.key, op := .set g d }) :
    ∃ o ∈ table, o.key = e.key ∧ e.requested = (o.inScene items hd).requested ∧ e.lastCue = (o.inScene items hd).lastCue
      ∧ (e.motion.code = 4 ↔ (o.inScene items hd).motion.code = 4) ∧ ((o.inScene items hd).motion.code = 4 → 0 < hd.fade) := by
  obtain ⟨r, held, key, requested, cue, code, fades⟩ := mergedTable_origin h
  rcases (mem_requestedTable ordered distinct hd r).mp held with ⟨o, listed, rfl⟩ | ⟨k, g', d', listed, _, rfl⟩
  · exact ⟨o, listed, (key.trans (inScene_key items hd o)).symm, requested, cue, code, fades⟩
  · have same : e.key = k := key
    exact absurd (itemFor_of_mem distinct listed) (same ▸ item g' d')

end

/-- Settles O46: the keys, the entries before the budget, what is left of each, and the movements. -/
theorem mergeSetsAndRetires : Obligations.MergeSetsAndRetires := by
  refine ⟨fun b table items hd ordered distinct => ⟨fun k => ⟨fun fades => hasKey_merged_of_fade ordered distinct b fades k,
    fun cut => hasKey_merged_of_cut ordered distinct b cut k⟩, fun e => ?_, requestedTable_ordered items hd ordered, fun e listed => ?_,
    fun e => ?_⟩, fun asked e => ?_, fun n asked e positive => ?_⟩
  · rw [mem_requestedTable ordered distinct hd e]
    refine or_congr (exists_congr fun o => and_congr_right fun _ => ?_) Iff.rfl
    refine Eq.congr_right ?_
    cases item : itemFor items o.key with
    | none =>
      rw [inScene_of_unnamed hd item, show items.find? _ = _ from item]
      rfl
    | some i =>
      obtain ⟨key, op⟩ := i
      obtain rfl : key = o.key := (itemFor_eq_some item).2
      rw [show items.find? _ = _ from item]
      cases op with
      | set g d => rw [inScene_of_set distinct hd item]; rfl
      | retire => rw [inScene_of_retire distinct hd item]; rfl
  · cases item : itemFor items e.key with
    | none =>
      obtain ⟨o, held, key, requested, cue, code, fades⟩ := merged_of_no_set ordered distinct listed (by simp [item])
      rw [inScene_of_unnamed hd (by rw [key]; exact item)] at requested cue code fades
      rw [show items.find? _ = _ from item]
      by_cases mode : hd.mode = .replace
      · rw [if_pos mode] at requested code fades
        exact (if_pos mode).symm ▸ ⟨requested, code.mpr rfl, fades rfl⟩
      · rw [if_neg mode] at requested cue code
        exact (if_neg mode).symm ▸ ⟨o, held, key, requested.symm, cue.symm, code.symm⟩
    | some i =>
      obtain ⟨key, op⟩ := i
      obtain rfl : key = e.key := (itemFor_eq_some item).2
      rw [show items.find? _ = _ from item]
      cases op with
      | set g d => exact merged_of_set ordered distinct listed item
      | retire =>
        obtain ⟨o, held, key, requested, cue, code, fades⟩ := merged_of_no_set ordered distinct listed (by simp [item])
        rw [inScene_of_retire distinct hd (by rw [key]; exact item)] at requested code fades
        exact ⟨requested, code.mpr rfl, fades rfl⟩
  · rw [mem_mergedTable]
    refine exists_congr fun o => and_congr_right fun _ => ?_
    rw [askedDelay_eq items distinct] <;> rfl
  · cases hm : e.motion with
    | retiring step r => exact (handMovement_eq_none_iff 0 asked e).mpr ⟨by rw [hm]; rfl, rfl⟩
    | _ =>
      have staying : e.motion.code ≠ 4 := by simp [hm, Motion.code]
      rw [handMovement_of_staying 0 asked staying, goMovement_zero staying, Entry.wanted, hm]
      rfl
  · intro ramp handed
    cases hm : e.motion with
    | retiring step r =>
      rw [handMovement_of_retiring n asked hm, retiringRamp, if_neg (by omega), Int.zero_sub]
    | _ =>
      have staying : e.motion.code ≠ 4 := by simp [hm, Motion.code]
      rw [handMovement_of_staying n asked staying, goMovement_of_pos positive asked staying, Entry.wanted, hm]
      simp [Motion.code]
      rfl

/-! ### Cuts -/

theorem filterMap_ite {α β : Type} (p : α → Prop) [DecidablePred p] (f : α → β) (l : List α) :
    (l.filterMap fun x => if p x then some (f x) else none) = (l.filter fun x => decide (p x)).map f := by
  induction l with
  | nil => rfl
  | cons x l ih =>
    by_cases h : p x
    · simp only [List.filterMap_cons, if_pos h, List.filter_cons, decide_eq_true h, if_true, List.map_cons, ih]
    · simp only [List.filterMap_cons, if_neg h, List.filter_cons, decide_eq_false h, Bool.false_eq_true, if_false, ih]

/-- Over a fade of 0 RETIRING entries leave and every other lands (R16, R78). -/
theorem handMovement_zero (asked : Option Nat) (e : Entry) :
    handMovement 0 asked e = if e.motion.code ≠ 4 then some (e.cutTo (e.wanted asked)) else none := by
  by_cases staying : e.motion.code = 4
  · rw [if_neg (by simp [staying]), handMovement_eq_none_iff]
    exact ⟨staying, rfl⟩
  · rw [if_pos staying, handMovement_of_staying 0 asked staying, goMovement_zero staying]

theorem mergedTable_of_cut (b : Budget) (table : List Entry) (items : List StandbyItem) {hd : Header} (cut : hd.fade = 0) :
    mergedTable b table items hd = ((fullBudget b (requestedTable table items hd)).filter fun o => decide (o.motion.code ≠ 4)).map
      fun o => o.cutTo (o.wanted (askedDelay items o.key)) := by
  rw [mergedTable, cut]
  simp only [handMovement_zero]
  exact filterMap_ite _ _ _

/-- Over a ceiling fade of 0 every entry but a RETIRING one lands, with its pending delay (R76, R78). -/
theorem ceilingMovement_zero (e : Entry) :
    ceilingMovement 0 e = if e.motion.code = 4 then e else e.cutTo (e.wanted none) := by
  cases hm : e.motion with
  | retiring step r => simp only [ceilingMovement, hm, Motion.code, if_true]
  | dipDown step r p u => simp only [ceilingMovement, hm, Motion.code, dipTo_zero, Entry.wanted, Option.getD]; rfl
  | dipUp step r =>
    simp only [ceilingMovement, hm, Motion.code, Entry.wanted, Option.getD]
    split
    · next arrived => exact settle1_of_arrived arrived
    · rfl
  | settled | ramping =>
    simp only [ceilingMovement, hm, Motion.code, Entry.wanted, Option.getD]
    split
    · next arrived => exact settle1_of_arrived arrived
    · rfl

theorem emitterClamped_sets (ceilings : Vector Nat 96) (chosen : Fin 96 → Bool) (table : List Entry) (e : Entry) :
    emitterClamped ceilings chosen table e = { e with target := (emitterClamped ceilings chosen table e).target } := by
  unfold emitterClamped
  split
  · split <;> rfl
  · rfl

/-- The handover of a CEILINGS card to an entry whose target stands. -/
def reTimed (chosen : Fin 96 → Bool) (fade : Nat) (e : Entry) : Entry :=
  if (destEmitter e.key).any chosen then ceilingMovement fade e else e

theorem recomputedTable_eq (b : Budget) (chosen : Fin 96 → Bool) (fade : Nat) (table : List Entry) :
    recomputedTable b chosen fade table = table.map fun e => reTimed chosen fade (emitterClamped b.ceilings chosen table e) := by
  rw [recomputedTable, emitterStage_eq, List.map_map]
  refine List.map_congr_left fun e _ => ?_
  rw [Function.comp_apply, reTimed]
  cases destEmitter (emitterClamped b.ceilings chosen table e).key <;> rfl

/-- What a cut of a CEILINGS card keeps of an entry (R78). -/
theorem reTimed_zero (chosen : Fin 96 → Bool) (e : Entry) : (reTimed chosen 0 e).key = e.key
    ∧ (reTimed chosen 0 e).requested = e.requested ∧ (reTimed chosen 0 e).lastCue = e.lastCue
    ∧ (reTimed chosen 0 e).delay = if (destEmitter e.key).any chosen = true then e.wanted none else e.delay := by
  rw [reTimed]
  split
  · rw [ceilingMovement_zero]
    split
    · next retiring =>
      refine ⟨rfl, rfl, rfl, ?_⟩
      cases hm : e.motion with
      | retiring step r => rw [Entry.wanted, hm]; rfl
      | _ => rw [hm] at retiring; cases retiring
    · exact ⟨rfl, rfl, rfl, rfl⟩
  · exact ⟨rfl, rfl, rfl, rfl⟩

/-- Settles O47: a merge over a fade of 0 as a filter and a map, and the recomputation entry by entry. -/
theorem cutsLeaveNothingMoving : Obligations.CutsLeaveNothingMoving := by
  refine ⟨fun b table items hd cut => ⟨fun e listed => ?_, fun distinct => ?_⟩, fun b chosen table => ⟨fun e listed em into listedEmitter => ?_, ?_⟩⟩
  · rw [mergedTable_of_cut b table items cut] at listed
    obtain ⟨o, _, rfl⟩ := List.mem_map.mp listed
    exact ⟨rfl, rfl⟩
  · rw [mergedTable_of_cut b table items cut]
    refine List.map_congr_left fun o _ => ?_
    rw [askedDelay_eq items distinct, Entry.wanted]
    cases item : itemFor items o.key with
    | none =>
      rw [show items.find? _ = _ from item]
      cases hm : o.motion <;> rfl
    | some i =>
      obtain ⟨key, op⟩ := i
      rw [show items.find? _ = _ from item]
      cases op with
      | set g d => rfl
      | retire => cases hm : o.motion <;> rfl
  · rw [recomputedTable_eq] at listed
    obtain ⟨o, _, rfl⟩ := List.mem_map.mp listed
    rw [(reTimed_zero chosen _).1] at into
    rw [reTimed, into, Option.any_some, if_pos listedEmitter, ceilingMovement_zero]
    split
    · next retiring => exact .inl retiring
    · exact .inr ⟨rfl, rfl⟩
  · rw [recomputedTable_eq, List.map_map]
    refine List.map_congr_left fun o _ => ?_
    obtain ⟨key, requested, cue, delay⟩ := reTimed_zero chosen (emitterClamped b.ceilings chosen table o)
    rw [Function.comp_apply, key, requested, cue, delay, emitterClamped_sets, Entry.wanted]
    cases hm : o.motion with
    | dipDown step r p u => rfl
    | _ => rw [Option.getD_none, ite_self]

end Sys2Proof.Machine
end

section
/-! The CEILINGS card (R38 to R41) and the budget's stages (R29 to R31, R36). -/

namespace Sys2Proof.Machine

theorem guards_iff (p : ProtState) : p.guards = true ↔ p = .locked ∨ p = .isFixed := by cases p <;> simp [ProtState.guards]

/-- A path leads into an emitter exactly where its destination code is the emitter's number (R7). -/
theorem intoEmitter_eq (em : Fin 96) (e : Entry) : intoEmitter em e = (e.key.destCode == em.val) := by
  rw [intoEmitter, Bool.eq_iff_iff, decide_eq_true_iff, beq_iff_eq]
  cases e.key with
  | pickupToEmitter p x => simp [destEmitter, Key.destCode, Fin.ext_iff]
  | tailToEmitter t x => simp [destEmitter, Key.destCode, Fin.ext_iff]
  | pickupToTail p t =>
    have emitter := em.isLt
    simp only [destEmitter, Key.destCode]
    constructor
    · intro h
      cases h
    · intro h
      omega

theorem ceilingItem_of_emitter (p : ProtState) (held : Vector Nat 96) (set : Vector Bool 96) {i : CeilingItem} {e : Fin 96}
    (h : i.emitter = e.val) : ceilingItem p (held, set) i =
      if (p = .locked ∨ p = .isFixed) ∧ i.ceiling ≠ held[e] then .error .isProtected
      else .ok (held.set e i.ceiling, set.set e true) := by
  obtain ⟨emitter, ceiling⟩ := i
  obtain rfl : emitter = e.val := h
  simp only [ceilingItem, dif_pos e.isLt, guards_iff]
  rfl

theorem clampStage_getElem (b : Budget) (chosen : Fin 96 → Bool) (table : List Entry) (em : Fin 96) :
    (clampStage b chosen table)[em] = if chosen em then emitterClamp table b.ceilings[em] em else b.clamped[em] := by
  simp only [clampStage, Fin.getElem_fin, Vector.getElem_ofFn]

/-- Settles O48: an item by its checks, the handover by the entry's state, and the card from the two stages of its recomputation. -/
theorem ceilingsCardRecomputesListed : Obligations.CeilingsCardRecomputesListed := by
  refine ⟨fun p held set i => ⟨fun beyond => dif_neg (by omega), fun e => ceilingItem_of_emitter p held set⟩, fun b => rfl, fun m e => ?_,
    fun s h bytes settled acting => ?_⟩
  · intro ramped
    cases hm : e.motion with
    | retiring step r => simp only [ceilingMovement, hm]
    | dipDown step r p u => simp only [ceilingMovement, hm]; rfl
    | dipUp step r => simp only [ceilingMovement, hm]; rfl
    | settled => simp only [ceilingMovement, hm]; rfl
    | ramping step r => simp only [ceilingMovement, hm]; rfl
  · intro r fade
    have card : exec .ceilings s = .next (ceilingsCard h bytes s) :=
      (exec_of_settled settled _).trans (congrArg _ (onCard_of_acting _ acting))
    refine ⟨_, card, rfl, fun em => ?_, ?_, ?_, rfl, ?_⟩
    · have clamped := clampStage_getElem { s.budget with ceilings := r.1.1 } (fun e => r.1.2[e]) s.table em
      refine clamped.trans ?_
      rw [emitterClamp]
      simp only [intoEmitter_eq]
    · refine (recomputedTable_eq { s.budget with ceilings := r.1.1 } (fun e => r.1.2[e]) fade s.table).trans ?_
      refine List.map_congr_left fun e _ => ?_
      rw [reTimed, emitterClamped_key]
      cases into : destEmitter e.key with
      | none => simp only [emitterClamped, into, Option.any_none, Bool.false_eq_true, if_false]
      | some em =>
        rw [Option.any_some]
        by_cases listed : r.1.2[em] = true
        · simp only [emitterClamped, into, if_pos listed, emitterTarget]
        · simp only [emitterClamped, into, if_neg listed]
    · rw [← itemCompletion_eq]
      rfl
    · have same := act_touches .ceilings s
      rw [show act .ceilings s = ceilingsCard h bytes s from onCard_of_acting _ acting] at same
      exact same.mono (by decide)

/-! ### The stages on a table -/

/-- A path leads into a tail exactly where its destination code is 128 plus the tail's number (R7). -/
theorem intoTail_eq (t : Fin 16) (e : Entry) : intoTail t e = (e.key.destCode == 128 + t.val) := by
  rw [intoTail, Bool.eq_iff_iff, decide_eq_true_iff, beq_iff_eq]
  cases e.key with
  | pickupToTail p x => simp [destTail, Key.destCode, Fin.ext_iff]
  | pickupToEmitter p em | tailToEmitter p em =>
    have emitter := em.isLt
    simp only [destTail, Key.destCode]
    constructor
    · intro h
      cases h
    · intro h
      omega

theorem tailClamped_sets (table : List Entry) (e : Entry) :
    tailClamped table e = { e with target := (tailClamped table e).target } := by
  unfold tailClamped
  split <;> rfl

/-- What the full computation makes of an entry. -/
def budgeted (b : Budget) (table : List Entry) (e : Entry) : Entry :=
  emitterClamped b.ceilings (fun _ => true) (tailStage table) (tailClamped table e)

theorem fullBudget_eq (b : Budget) (table : List Entry) : fullBudget b table = table.map (budgeted b table) := by
  rw [fullBudget, emitterStage_eq, tailStage_eq, List.map_map]
  rfl

theorem budgeted_sets (b : Budget) (table : List Entry) (e : Entry) :
    budgeted b table e = { e with target := (budgeted b table e).target } := by
  rw [budgeted, emitterClamped_sets, tailClamped_sets]

theorem budgeted_target_of_tail (b : Budget) (table : List Entry) {e : Entry} {t : Fin 16} (h : destTail e.key = some t) :
    (budgeted b table e).target = tailTarget (tailSum table t) e.requested := by
  have into : intoTail t (tailClamped table e) = true := by rw [intoTail, tailClamped_key, h, decide_eq_true rfl]
  rw [budgeted, emitterClamped_of_intoTail _ _ _ into, tailClamped_target (decide_eq_true h)]

theorem budgeted_target_of_emitter (b : Budget) (table : List Entry) {e : Entry} {em : Fin 96} (h : destEmitter e.key = some em) :
    (budgeted b table e).target = emitterTarget b.ceilings[em] (emitterSum (tailStage table) em) e.requested := by
  have into : intoEmitter em (tailClamped table e) = true := by rw [intoEmitter, tailClamped_key, h, decide_eq_true rfl]
  rw [budgeted, emitterClamped_target _ _ _ into rfl, tailClamped_sets]

/-- Settles O19: the two stages entry by entry, and the sums they divide by. -/
theorem budgetStagesGiveTargets : Obligations.BudgetStagesGiveTargets := by
  intro b table
  refine ⟨?_, fun e listed t into => ?_, fun e listed em into => ?_, fun em => ?_, fun t => ?_, fun em => ?_⟩
  · rw [fullBudget_eq, List.map_map]
    refine List.map_congr_left fun e _ => ?_
    rw [Function.comp_apply, budgeted_sets]
  · rw [fullBudget_eq] at listed
    obtain ⟨o, _, rfl⟩ := List.mem_map.mp listed
    rw [budgeted_sets] at into
    rw [budgeted_target_of_tail b table (e := o) into, show (budgeted b table o).requested = o.requested from by rw [budgeted_sets]]
    rfl
  · intro c sum
    rw [fullBudget_eq] at listed
    obtain ⟨o, _, rfl⟩ := List.mem_map.mp listed
    rw [budgeted_sets] at into
    rw [budgeted_target_of_emitter b table (e := o) into, show (budgeted b table o).requested = o.requested from by rw [budgeted_sets]]
    rfl
  · rw [fullClamp, clampStage_getElem, if_pos rfl]
    rfl
  · rw [tailSum, sumOver, funext (intoTail_eq t)]
  · rw [emitterSum, sumOver, funext (intoEmitter_eq em)]
    refine congrArg List.sum (List.map_congr_left fun e _ => ?_)
    rw [sourceWeight]
    cases e.key with
    | tailToEmitter t x => simp only [sourceTail, tailWeight, sumOver, funext (intoTail_eq t)]
    | pickupToEmitter p x => rfl
    | pickupToTail p t => rfl

end Sys2Proof.Machine
end

section
/-! The cards of the tail bank (R110 to R116) and of the pickups' settings (R131 to R134). -/

namespace Sys2Proof.Machine

/-! ### The sounding test -/

theorem sounds_iff (e : Entry) : e.sounds = true ↔ e.current ≠ 0 ∨ e.motion.code = 1 ∨ e.motion.code = 2 ∨ e.motion.code = 3 := by
  rw [Entry.sounds]
  cases e.motion <;> simp [Motion.code]

theorem sourceTail_eq_some_iff (k : Key) (t : Fin 16) : sourceTail k = some t ↔ ∃ em, k = .tailToEmitter t em := by
  cases k <;> simp [sourceTail]

theorem sounding_iff (table : List Entry) (t : Fin 16) : sounding table t = true ↔ ∃ e ∈ table,
    (∃ em, e.key = .tailToEmitter t em) ∧ (e.current ≠ 0 ∨ e.motion.code = 1 ∨ e.motion.code = 2 ∨ e.motion.code = 3) := by
  simp only [sounding, List.any_eq_true, Bool.and_eq_true, decide_eq_true_iff, sourceTail_eq_some_iff, sounds_iff]

theorem designSounds_iff (table : List Entry) (ds : Vector (Option (Fin 40)) 16) (d : Fin 40) :
    designSounds table ds d = true ↔ ∃ k : Fin 16, ds[k] = some d ∧ sounding table k = true := by
  simp only [designSounds, List.any_eq_true, List.mem_finRange, true_and, Bool.and_eq_true, decide_eq_true_iff]

theorem soundingSet_getElem? (table : List Entry) (t : Fin 16) : (soundingSet table)[t.val]? = some (sounding table t) := by
  simp [soundingSet]

theorem contentSounds_iff (table : List Entry) (ds : Vector (Option (Fin 40)) 16) (o : Option Patch) :
    contentSounds table ds o = true ↔ ∃ p, o = some p ∧ designSounds table ds p.design = true := by
  cases o <;> simp [contentSounds]

/-! ### TAILS -/

theorem designOfCode_designCode (d : Option (Fin 40)) : designOfCode (designCode d) = some d := by
  cases d with
  | none => rfl
  | some d => exact dif_pos d.isLt

theorem tailItem_out_of_range (table : List Entry) (ds : Vector (Option (Fin 40)) 16) {i : TailItem}
    (h : 16 ≤ i.tail ∨ (40 ≤ i.design ∧ i.design ≠ 255)) : tailItem table ds i = .error .range := by
  by_cases beyond : 16 ≤ i.tail
  · exact dif_neg (by omega)
  · obtain ⟨design, other⟩ := h.resolve_left beyond
    have unnamed : designOfCode i.design = none := by rw [designOfCode, dif_neg (by omega), if_neg other]
    rw [tailItem, dif_pos (by omega), unnamed]

theorem tailItem_of_tail (table : List Entry) (ds : Vector (Option (Fin 40)) 16) {i : TailItem} {t : Fin 16} {d : Option (Fin 40)}
    (tail : i.tail = t.val) (design : designCode d = i.design) : tailItem table ds i =
      if ds[t] = d then .ok ds else if sounding table t then .error .tailBusy else .ok (ds.set t d) := by
  obtain ⟨tail', design'⟩ := i
  obtain rfl : tail' = t.val := tail
  obtain rfl : design' = designCode d := design.symm
  rw [tailItem, dif_pos t.isLt, designOfCode_designCode]
  rfl

/-! ### PATCHES -/

section
variable (p : ProtState) (table : List Entry) (ds : Vector (Option (Fin 40)) 16) (slots : Vector (Option Patch) 8) {i : PatchItem}

theorem patchItem_of_refused {r : Result} (h : patchContent i = .error r) : patchItem p table ds slots i = .error r := by
  rw [patchItem, h]

theorem patchItem_of_content {k : Fin 8} {new : Option Patch} (slot : i.slot = k.val) (h : patchContent i = .ok new) :
    patchItem p table ds slots i = if slots[k] = new then .ok slots
      else if p = .locked ∨ p = .isFixed then .error .isProtected
      else if contentSounds table ds slots[k] = true ∨ contentSounds table ds new = true then .error .tailBusy
      else .ok (slots.set k new) := by
  obtain ⟨slot', action, design, tap, delay, gain⟩ := i
  obtain rfl : slot' = k.val := slot
  simp only [patchItem, h, dif_pos k.isLt, guards_iff, Bool.or_eq_true]
  rfl

end

theorem patchContent_of_range {i : PatchItem} (action : i.action ≤ 1)
    (h : 8 ≤ i.slot ∨ (i.action = 1 ∧ (40 ≤ i.design ∨ i.delay = 0))) : patchContent i = .error .range := by
  rw [patchContent, if_neg (by omega)]
  by_cases beyond : 8 ≤ i.slot
  · exact if_pos beyond
  · obtain ⟨writes, bad⟩ := h.resolve_left beyond
    rw [if_neg beyond, if_neg (by omega)]
    by_cases named : i.design < 40
    · rw [dif_pos named, if_pos (by omega)]
    · exact dif_neg named

theorem patchContent_of_content {i : PatchItem} {new : Option Patch} (slot : i.slot < 8)
    (h : (i.action = 0 ∧ new = none) ∨ (i.action = 1 ∧ 1 ≤ i.delay ∧ ∃ d : Fin 40, i.design = d.val ∧
      new = some { design := d, tap := i.tap, delay := i.delay, gain := i.gain })) : patchContent i = .ok new := by
  rcases h with ⟨clears, rfl⟩ | ⟨writes, delayed, d, design, rfl⟩
  · rw [patchContent, if_neg (by omega), if_neg (by omega), if_pos clears]
  · obtain ⟨slot', action, design', tap, delay, gain⟩ := i
    obtain rfl : design' = d.val := design
    rw [patchContent, if_neg (by omega), if_neg (by omega), if_neg (by omega), dif_pos d.isLt, if_neg (by omega)]

/-- Settles O49: the sounding test, the items by their checks, and the two cards by their completions. -/
theorem tailsAndPatchesCards : Obligations.TailsAndPatchesCards := by
  refine ⟨fun table ds d t => ⟨sounding_iff table t, designSounds_iff table ds d, soundingSet_getElem? table t⟩, fun b => ⟨rfl, rfl⟩,
    fun d => ⟨rfl, rfl⟩, fun table ds i => ⟨tailItem_out_of_range table ds, fun t d => tailItem_of_tail table ds⟩,
    fun p table ds slots i => ⟨fun action => patchItem_of_refused p table ds slots (if_pos action), fun action range =>
      patchItem_of_refused p table ds slots (patchContent_of_range action range), fun k new slot content =>
      patchItem_of_content p table ds slots slot (patchContent_of_content (by omega) content)⟩, contentSounds_iff,
    fun s h bytes settled => ⟨fun acting => ?_, fun acting => ?_⟩⟩
  · intro r t
    have card : exec .tails s = .next (tailsCard h bytes s) :=
      (exec_of_settled settled _).trans (congrArg _ (onCard_of_acting _ acting))
    have codes : t.tails.designs.toList.flatMap (fun d => leBytes 1 (designCode d))
        = t.tails.designs.toList.map (fun x => match x with | some d => BitVec.ofNat 8 d.val | none => 255) := by
      rw [List.map_eq_flatMap]
      refine congrArg (List.flatMap · _) (funext fun x => ?_)
      cases x <;> rfl
    have left : tailsCard h bytes s = complete h (itemCompletion h.count 0 r.2 [(24,
        t.tails.designs.toList.flatMap (fun d => leBytes 1 (designCode d)) ++ flagBytes 2 ((List.finRange 16).map (sounding s.table)))]) t := rfl
    rw [card, left, codes, itemCompletion_eq] <;> rfl
  · intro r idle t
    have card : exec .patches s = .next (patchesCard h bytes s) :=
      (exec_of_settled settled _).trans (congrArg _ (onCard_of_acting _ acting))
    have idles : idle = ineffective := funext fun o => by cases o <;> rfl
    rw [card, idles, ← itemCompletion_eq]
    rfl

/-! ### PICKUPS -/

theorem clamped_eq {lo hi : Nat} (range : lo ≤ hi) (n : Nat) : clamped lo hi n = if n < lo ∨ hi < n then 1 else 0 := by
  by_cases outside : n < lo ∨ hi < n
  · rw [clamped, if_neg (by rw [clampTo]; omega), if_pos outside]
  · rw [clamped, if_pos (by rw [clampTo]; omega), if_neg outside]

/-- The number of settings outside their ranges (R131). -/
theorem clampCount_eq (i : PickupItem) : i.clampCount =
    [decide (8388607 < i.floor), decide (i.limit < 1 ∨ 60000 < i.limit),
      decide (i.ring.rise < 257 ∨ 1023 < i.ring.rise), decide (268435455 < i.ring.ringFloor),
      decide (255 < i.ring.cut), decide (256 < i.ring.trimFloor), decide (i.ring.hold < 1 ∨ 60000 < i.ring.hold),
      decide (i.ring.recovery < 1 ∨ 64 < i.ring.recovery)].count true := by
  have one : ∀ (p : Prop) [Decidable p] (bs : List Bool), (decide p :: bs).count true = (if p then 1 else 0) + bs.count true := by
    intro p _ bs
    by_cases h : p <;> simp [h, Nat.add_comm]
  simp only [one, List.count_nil, PickupItem.clampCount]
  rw [clamped_eq (by omega), clamped_eq (by omega), clamped_eq (by omega), clamped_eq (by omega), clamped_eq (by omega),
    clamped_eq (by omega), clamped_eq (by omega), clamped_eq (by omega)]
  simp only [Nat.not_lt_zero, false_or, Nat.add_zero, Nat.add_assoc]

theorem setEnable_of_disabled {on : Bool} {p : Pickup} (h : p.state = .disabled) : p.setEnable on = if on then p.enabled else p := by
  cases on <;> simp only [Pickup.setEnable, h] <;> rfl

theorem setEnable_of_enabled {on : Bool} {p : Pickup} (h : p.state ≠ .disabled) :
    p.setEnable on = if on then p else { p with state := .disabled, hold := 0 } := by
  cases state : p.state with
  | disabled => exact absurd state h
  | _ => cases on <;> simp only [Pickup.setEnable, state] <;> rfl

theorem pickupItem_of_pickup (prot : ProtState) (ps : Vector Pickup 32) (n : Nat) {i : PickupItem} {p : Fin 32} (h : i.pickup = p.val) :
    pickupItem prot (ps, n) i = if 1 < i.enable then .error .badField
      else if (prot = .locked ∨ prot = .isFixed) ∧ i.clampAll.ring ≠ ps[p].ring then .error .isProtected
      else .ok (ps.set p ((ps[p].setSettings i.clampAll).setEnable (i.enable == 1)), n + i.clampCount) := by
  obtain ⟨pickup, enable, floor, limit, ring⟩ := i
  obtain rfl : pickup = p.val := h
  simp only [pickupItem, dif_pos p.isLt, guards_iff]
  rfl

/-- The 2-bit state codes of a list, the first lowest (R176). -/
theorem stateCodes_getElem (ps : List Pickup) {i : Nat} (h : i < ps.length) : stateCodes ps / 4 ^ i % 4 = (ps[i]).state.code := by
  have code_lt : ∀ p : Pickup, p.state.code < 4 := fun p => by cases p.state <;> decide
  induction ps generalizing i with
  | nil => cases h
  | cons p ps ih =>
    have small := code_lt p
    cases i with
    | zero =>
      rw [stateCodes, Nat.pow_zero, Nat.div_one, List.getElem_cons_zero]
      omega
    | succ i =>
      have rest : (p.state.code + 4 * stateCodes ps) / 4 = stateCodes ps := by omega
      rw [stateCodes, Nat.pow_succ', ← Nat.div_div_eq_div_mul, rest, List.getElem_cons_succ]
      exact ih (by simpa using h)

/-- Settles O50: an item by its checks, its settings as clamped and the enable by the pickup's state, and the card by its completion. -/
theorem pickupsCardWritesSettings : Obligations.PickupsCardWritesSettings := by
  refine ⟨fun prot ps n i => ⟨fun beyond => dif_neg (by omega), fun p pickup => ⟨fun bad => ?_, fun known => ?_⟩⟩, fun b => rfl,
    fun ps p => ?_, fun s h bytes settled acting => ?_⟩
  · rw [pickupItem_of_pickup prot ps n pickup, if_pos bad]
  · intro ring written left
    have item := pickupItem_of_pickup prot ps n pickup
    rw [if_neg (by omega), clampCount_eq] at item
    have clamped_ring : i.clampAll.ring = ring := by
      simp only [ring, PickupItem.clampAll, RingGroup.clampAll, clampTo, Nat.zero_max]
    have settings : ps[p].setSettings i.clampAll = written := by
      simp only [written, Pickup.setSettings, clamped_ring]
      simp only [PickupItem.clampAll, clampTo, Nat.zero_max]
    have enable : (ps[p].setSettings i.clampAll).setEnable (i.enable == 1) = left := by
      rw [settings]
      by_cases disabled : ps[p].state = .disabled
      · rw [setEnable_of_disabled (p := written) disabled]
        simp only [left, if_pos disabled, beq_iff_eq]
        rfl
      · rw [setEnable_of_enabled (p := written) disabled]
        simp only [left, if_neg disabled, beq_iff_eq]
    rw [enable, clamped_ring] at item
    by_cases guarded : (prot = .locked ∨ prot = .isFixed) ∧ ring ≠ ps[p].ring
    · rw [if_pos guarded, item, if_pos guarded]
    · rw [if_neg guarded, item, if_neg guarded]
  · rw [stateCodes_getElem ps.toList (by simp)]
    simp only [Vector.getElem_toList, Fin.getElem_fin]
    cases ps[p.val].state <;> rfl
  · intro r t
    have card : exec .pickups s = .next (pickupsCard h bytes s) :=
      (exec_of_settled settled _).trans (congrArg _ (onCard_of_acting _ acting))
    rw [card, ← itemCompletion_eq]
    rfl

end Sys2Proof.Machine
end

section
/-! The MUTES card on its copy of the flags (R136 to R138), and the cue line (R153 to R159). -/

namespace Sys2Proof.Machine

/-! ### The items of a MUTES card -/

/-- The copy of the flags after items have acted on it (R137). -/
def muted (o : MuteOp) (fs : List Bool) (xs : List Nat) : List Bool :=
  xs.foldl (fun f x => f.set x (o.act (f.getD x false))) fs

theorem muted_cons (o : MuteOp) (fs : List Bool) (x : Nat) (xs : List Nat) :
    muted o fs (x :: xs) = muted o (fs.set x (o.act (fs.getD x false))) xs := rfl

/-- The write of the prior value of item `j`, the first item standing at index `i` of the list (R137). -/
def priorWrite (o : MuteOp) (a i : Nat) (fs : List Bool) (xs : List Nat) (j : Nat) : Transfer :=
  { addr := a + 2 * (i + j) + 1, bytes := [if (muted o fs (xs.take j)).getD (xs.getD j 0) false then 1 else 0] }

/-- Why an item fails: its index is not below the map's size, or its write fails (R137). -/
def MuteFails (failAt : Option Nat) (i x size : Nat) (r : Result) : Prop :=
  (r = .range ∧ size ≤ x) ∨ (r = .link ∧ failAt = some i ∧ x < size)

/-- What a run of the items from index `i` on comes to, `n` being the items that act and `fail` the failure after them. -/
structure MuteRuns (o : MuteOp) (a : Nat) (failAt : Option Nat) (i : Nat) (fs : List Bool) (ws : List Transfer) (xs : List Nat)
    (n : Nat) (fail : Option Result) : Prop where
  run : muteItems o a failAt i xs { flags := fs, writes := ws } =
    ({ flags := muted o fs (xs.take n), writes := ws ++ (List.range n).map (priorWrite o a i fs xs) }, fail.map fun r => (i + n, r))
  within : n ≤ xs.length
  whole : fail = none → n = xs.length
  acted : ∀ j, j < n → xs.getD j 0 < fs.length ∧ failAt ≠ some (i + j)
  failed : ∀ r, fail = some r → n < xs.length ∧ MuteFails failAt (i + n) (xs.getD n 0) fs.length r

theorem muteItems_runs (o : MuteOp) (a : Nat) (failAt : Option Nat) (xs : List Nat) (i : Nat) (fs : List Bool) (ws : List Transfer) :
    ∃ n fail, MuteRuns o a failAt i fs ws xs n fail := by
  induction xs generalizing i fs ws with
  | nil =>
    exact ⟨0, none, by simp [muteItems, muted], Nat.le_refl _, fun _ => rfl, fun _ below => absurd below (Nat.not_lt_zero _),
      fun _ failed => by cases failed⟩
  | cons x xs ih =>
    by_cases beyond : fs.length ≤ x
    · refine ⟨0, some .range, ?_, Nat.zero_le _, fun h => absurd h (by simp), fun _ below => absurd below (Nat.not_lt_zero _),
        fun r failed => ?_⟩
      · simp only [muteItems, List.getElem?_eq_none beyond]
        simp [muted]
      · cases failed
        exact ⟨by simp, .inl ⟨rfl, beyond⟩⟩
    · have listed : x < fs.length := by omega
      have prior : fs[x]? = some (fs.getD x false) := by
        rw [List.getD_eq_getElem?_getD, List.getElem?_eq_getElem listed, Option.getD_some]
      by_cases fails : failAt = some i
      · refine ⟨0, some .link, ?_, Nat.zero_le _, fun h => absurd h (by simp), fun _ below => absurd below (Nat.not_lt_zero _),
          fun r failed => ?_⟩
        · simp only [muteItems, prior, if_pos fails]
          simp [muted]
        · cases failed
          exact ⟨by simp, .inr ⟨rfl, fails, listed⟩⟩
      · have first : priorWrite o a i fs (x :: xs) 0 = { addr := a + 2 * i + 1, bytes := leBytes 1 (fs.getD x false).toNat } := by
          simp only [priorWrite, List.take_zero, List.getD_cons_zero, muted, List.foldl_nil, Nat.add_zero]
          cases fs.getD x false <;> rfl
        obtain ⟨n, fail, runs⟩ := ih (i + 1) (fs.set x (o.act (fs.getD x false))) (ws ++ [priorWrite o a i fs (x :: xs) 0])
        obtain ⟨run, within, whole, acted, failed⟩ := runs
        rw [List.length_set] at acted failed
        refine ⟨n + 1, fail, ?_, by simpa using within, fun h => by simp [whole h], fun j below => ?_, fun r h => ?_⟩
        · have later : ∀ j, priorWrite o a (i + 1) (fs.set x (o.act (fs.getD x false))) xs j = priorWrite o a i fs (x :: xs) (j + 1) :=
            fun j => by
              have index : i + 1 + j = i + (j + 1) := by omega
              simp only [priorWrite, List.take_succ_cons, muted_cons, List.getD_cons_succ, index]
          simp only [muteItems, prior, if_neg fails, ← first, run]
          rw [List.take_succ_cons, muted_cons, List.range_succ_eq_map, List.map_cons, List.map_map, List.append_assoc, List.singleton_append,
            List.map_congr_left fun j _ => later j, Nat.add_assoc, Nat.add_comm 1 n]
          rfl
        · cases j with
          | zero => exact ⟨listed, fails⟩
          | succ j =>
            obtain ⟨below', stays⟩ := acted j (by omega)
            rw [Nat.add_assoc, Nat.add_comm 1 j] at stays
            exact ⟨below', stays⟩
        · obtain ⟨more, why⟩ := failed r h
          rw [Nat.add_assoc, Nat.add_comm 1 n] at why
          exact ⟨by simpa using more, why⟩

/-! ### The card -/

theorem landAll_hostMem (ts : List Transfer) (s : State) :
    (landAll ts s).hostMem = ts.foldl (fun m w => m.putAll w.addr w.bytes) s.hostMem := by
  induction ts generalizing s with
  | nil => rfl
  | cons w ts ih => exact ih (land w s)

theorem muteCompletion_eq (count : Nat) (fail : Option (Nat × Result)) (returns : List (Nat × List Byte)) :
    muteCompletion count fail returns =
      { result := (fail.map Prod.snd).getD .ok
        remaining := (fail.map fun f => count - f.1).getD 0
        detail := (fail.map fun f => if f.2 = .link then 0 else f.1 % 256).getD 0
        returns := returns } := by
  cases fail with
  | none => rfl
  | some f =>
    obtain ⟨i, r⟩ := f
    cases r <;> rfl

theorem ofCode_of_beyond {n : Nat} (h : 3 < n) : MuteOp.ofCode n = none := by
  match n, h with
  | n + 4, _ => rfl

theorem mutesCard_of_bad {failAt : Option Nat} {h : Hand} {bytes : List Byte} {s : State} (kind : h.kind = some .mutes)
    (bad : 3 < h.arg 24 1 ∨ 1 < h.arg 25 1) : mutesCard failAt h bytes s = complete h
      { result := .badField, remaining := h.count, detail := 0, returns := mutesReturn (h.arg 25 1) s } s := by
  have refused : refusedWhole .badField h s
      = { result := .badField, remaining := h.count, detail := 0, returns := mutesReturn (h.arg 25 1) s } := by
    simp only [refusedWhole, returnsAsStands, kind]
  rw [← refused]
  cases op : MuteOp.ofCode (h.arg 24 1) with
  | none => simp only [mutesCard, op]
  | some o =>
    have known : ¬ 3 < h.arg 24 1 := fun beyond => by rw [ofCode_of_beyond beyond] at op; cases op
    simp only [mutesCard, op, if_pos (bad.resolve_left known)]

theorem mutesCard_of_op {failAt : Option Nat} {h : Hand} {bytes : List Byte} {s : State} {o : MuteOp}
    (op : MuteOp.ofCode (h.arg 24 1) = some o) (map : h.arg 25 1 ≤ 1) :
    mutesCard failAt h bytes s = muteRun o (h.arg 25 1) failAt h bytes s := by
  simp only [mutesCard, op, if_neg (Nat.not_lt.mpr map)]

section
variable (emitters : Bool) (fs : List Bool) (s : State)

theorem installFlags_emitterFlag (e : Fin 96) :
    (installFlags emitters fs s).sup.emitterFlag[e] = if emitters then fs.getD e.val false else s.sup.emitterFlag[e] := by
  cases emitters
  · simp only [installFlags, Bool.false_eq_true, if_false, State.setSup_sup]
  · simp only [installFlags, if_true, State.setSup_sup, Fin.getElem_fin, Vector.getElem_ofFn]

theorem installFlags_muteFlag (p : Fin 32) : (installFlags emitters fs s).sup.pickups[p] = { s.sup.pickups[p] with
    muteFlag := if emitters then s.sup.pickups[p].muteFlag else fs.getD p.val false } := by
  cases emitters
  · simp only [installFlags, Bool.false_eq_true, if_false, State.setSup_sup, Fin.getElem_fin, Vector.getElem_ofFn]
  · simp only [installFlags, if_true, State.setSup_sup]

end

/-- A completion changes of the reader the card in hand alone. -/
theorem complete_reader (h : Hand) (c : Completion) {s u : State} (same : u.reader = s.reader) :
    (complete h c u).reader = { s.reader with hand := (complete h c u).reader.hand } := by
  rw [← same]
  rfl

/-- Settles O51: the items by `muteItems_runs`, and the card from the copy they leave. -/
theorem mutesCardActsOnACopy : Obligations.MutesCardActsOnACopy := by
  refine ⟨fun o a failAt xs fs => ?_, ⟨rfl, fun n => ofCode_of_beyond⟩, fun prior => ⟨rfl, rfl, rfl, rfl⟩, fun s map => ?_,
    fun s h bytes failAt settled acting => ⟨fun bad => ?_, fun o op map => ?_⟩⟩
  · intro r stop after
    obtain ⟨n, fail, run, within, whole, acted, failed⟩ := muteItems_runs o a failAt xs 0 fs []
    have outcome : r = _ := run
    have stops : stop = n := by
      simp only [stop, outcome]
      cases fail with
      | none => exact (whole rfl).symm
      | some x => simp
    rw [stops, outcome]
    refine ⟨rfl, within, ?_, fun i below => by simpa using acted i below, fun f fails => ?_⟩
    · refine List.map_congr_left fun i _ => ?_
      rw [priorWrite, Nat.zero_add]
      rfl
    · obtain ⟨x, is_fail, rfl⟩ := Option.map_eq_some_iff.mp fails
      obtain ⟨more, why⟩ := failed x is_fail
      rw [Nat.zero_add] at why
      exact ⟨more, why⟩
  · refine ⟨_, rfl, fun pickups => if_pos pickups, fun emitters => ?_⟩
    rw [muteSetBytes, if_neg (by omega), if_pos emitters]
  · rw [exec_of_settled settled]
    exact congrArg _ ((onCard_of_acting _ acting).trans (mutesCard_of_bad (actingOn_kind acting) bad))
  · intro emitters r
    have card : exec (.mutes failAt) s = .next (muteRun o (h.arg 25 1) failAt h bytes s) :=
      (exec_of_settled settled _).trans (congrArg _ ((onCard_of_acting _ acting).trans (mutesCard_of_op op map)))
    have landed : (landAll r.1.writes s).sup = s.sup := landAll_same s r.1.writes .sup (by decide)
    have same := act_touches (.mutes failAt) s
    rw [show act (.mutes failAt) s = muteRun o (h.arg 25 1) failAt h bytes s from
      (onCard_of_acting _ acting).trans (mutesCard_of_op op map)] at same
    refine ⟨_, card, ?_, fun e => ?_, fun p => ?_, ?_, ?_, ?_, same.mono (by simp [touches])⟩
    · exact (installFlags_same _ emitters r.1.flags .hostMem (by decide)).trans (landAll_hostMem r.1.writes s)
    · refine (installFlags_emitterFlag emitters r.1.flags (landAll r.1.writes s) e).trans ?_
      rw [landed]
    · refine (installFlags_muteFlag emitters r.1.flags (landAll r.1.writes s) p).trans ?_
      rw [landed]
    · exact (installFlags_emitterGain _ _ _).trans (congrArg Supervisor.emitterGain landed)
    · rw [← muteCompletion_eq]
      rfl
    · refine complete_reader h _ ?_
      exact (installFlags_same _ emitters r.1.flags .reader (by decide)).trans (landAll_same s r.1.writes .reader (by decide))

/-! ### The cue line -/

/-- The change of the filtered level is a pulse where the edge setting asks for it (R155). -/
theorem isPulse_iff (e : Edge) (l : Option Level) (after : Level) : isPulse e l after = true ↔
    (e = .rising ∧ l = some .low ∧ after = .high) ∨ (e = .falling ∧ l = some .high ∧ after = .low) := by
  cases e <;> cases after <;> rcases l with _ | _ | _ <;> decide

section
variable {x : Level} {s : State} (enabled : s.cue.enable = true)
include enabled

theorem lineSample_of_pulse
    (pulse : isPulse s.cue.edge s.cue.filtered (filterLevel s.cue.filter s.cue.filtered (pushFour s.cue.history x) x) = true) :
    lineSample x s = judgePulse (s.setCue (s.cue.sampled x)) := by
  simp only [lineSample, enabled, if_true, pulse]

theorem lineSample_of_quiet
    (quiet : ¬ isPulse s.cue.edge s.cue.filtered (filterLevel s.cue.filter s.cue.filtered (pushFour s.cue.history x) x) = true) :
    lineSample x s = s.setCue (s.cue.sampled x) := by
  simp only [lineSample, enabled, if_true, if_neg quiet]

end

theorem judgePulse_of_counting {s : State} (h : 0 < s.cue.counter) : judgePulse s = bouncePulse s := if_pos h

theorem judgePulse_of_free {s : State} (h : s.cue.counter = 0) : judgePulse s = acceptPulse s := if_neg (by omega)

theorem lineSettings_of_bad {h : Hand} (bad : 1 < h.arg 24 1 ∨ 1 < h.arg 25 1) : lineSettings h = .error .badField := by
  by_cases enable : 1 < h.arg 24 1
  · exact if_pos enable
  · exact (if_neg enable).trans (if_pos (bad.resolve_left enable))

theorem lineSettings_of_good {h : Hand} (enable : h.arg 24 1 ≤ 1) (edge : h.arg 25 1 ≤ 1) : lineSettings h =
    .ok { enable := h.arg 24 1 == 1, edge := if h.arg 25 1 = 0 then .rising else .falling, filter := h.arg 26 1
          holdoff := min 10000 (h.arg 28 2) } :=
  (if_neg (Nat.not_lt.mpr enable)).trans (if_neg (Nat.not_lt.mpr edge))

/-- Settles O54: a sample by the pulse it makes and the holdoff counter, and the card by its arguments. -/
theorem cueLineSamplesAndCard : Obligations.CueLineSamplesAndCard := by
  refine ⟨fun s x settled => ⟨fun disabled => ?_, fun enabled => ?_⟩, fun s => ?_, fun s h bytes settled acting =>
    ⟨fun bad => ?_, fun enable edge => ?_⟩⟩
  · rw [exec_of_settled settled]
    refine congrArg _ ?_
    show lineSample x s = s
    rw [lineSample, disabled]
    exact if_neg Bool.false_ne_true
  · intro h after t pulse
    have taken : exec (.cueLineSample x) s = .next (lineSample x s) := exec_of_settled settled _
    have history : pushFour s.cue.history x = h := pushFour_eq s.cue.history x
    have level : filterLevel s.cue.filter s.cue.filtered h x = after := by
      simp only [after]
      unfold filterLevel
      cases s.cue.filtered with
      | none => rfl
      | some l => cases l <;> rfl
    have sampled : s.setCue (s.cue.sampled x) = t := by
      simp only [CueLine.sampled, history, level]
      rfl
    have judged := isPulse_iff s.cue.edge s.cue.filtered after
    rw [← level, ← history] at judged
    rw [taken]
    refine ⟨fun quiet => ?_, fun edge counting => ?_, fun edge free => ?_⟩
    · rw [lineSample_of_quiet enabled (mt judged.mp (by rw [history, level]; exact quiet)), sampled]
    · rw [lineSample_of_pulse enabled (judged.mpr (by rw [history, level]; exact edge)), sampled, judgePulse_of_counting (s := t) counting]
      rfl
    · rw [lineSample_of_pulse enabled (judged.mpr (by rw [history, level]; exact edge)), sampled, judgePulse_of_free (s := t) free]
      rfl
  · have enable : s.cue.enable.toNat = if s.cue.enable then 1 else 0 := by cases s.cue.enable <;> rfl
    have edge : s.cue.edge.code = match s.cue.edge with | .rising => 0 | .falling => 1 := by cases s.cue.edge <;> rfl
    have filtered : levelCode s.cue.filtered = match s.cue.filtered with | some .low => 0 | some .high => 1 | none => 2 := by
      rcases s.cue.filtered with _ | _ | _ <;> rfl
    rw [cueLineReturn, enable, edge, filtered] <;> rfl
  · rw [exec_of_settled settled]
    refine congrArg _ ((onCard_of_acting _ acting).trans ?_)
    simp only [cueLineCard, lineSettings_of_bad bad]
    rfl
  · intro on holdoff t
    rw [exec_of_settled settled]
    refine congrArg _ ((onCard_of_acting _ acting).trans ?_)
    have on_eq : (h.arg 24 1 == 1) = on := Bool.beq_eq_decide_eq _ _
    have enable_code : on.toNat = if on then 1 else 0 := by cases on <;> rfl
    have edge_code : (if h.arg 25 1 = 0 then Edge.rising else Edge.falling).code = h.arg 25 1 := by
      by_cases rising : h.arg 25 1 = 0
      · rw [if_pos rising, rising]
        rfl
      · rw [if_neg rising]
        exact (show h.arg 25 1 = 1 by omega).symm
    have configured : s.setCue (s.cue.configured
        { enable := on, edge := if h.arg 25 1 = 0 then .rising else .falling, filter := h.arg 26 1
          holdoff := min 10000 (h.arg 28 2) }) = t := by
      simp only [CueLine.configured, Bool.and_eq_true]
      rfl
    simp only [cueLineCard, lineSettings_of_good enable edge, on_eq, configured, cueLineReturn]
    have parts : t.cue.enable = on ∧ t.cue.edge = (if h.arg 25 1 = 0 then Edge.rising else Edge.falling)
      ∧ t.cue.filter = h.arg 26 1 ∧ t.cue.holdoff = holdoff ∧ t.cue.bounced = s.cue.bounced := ⟨rfl, rfl, rfl, rfl, rfl⟩
    obtain ⟨enable_t, edge_t, filter_t, holdoff_t, bounced_t⟩ := parts
    rw [enable_t, edge_t, filter_t, holdoff_t, bounced_t, edge_code, enable_code]
    rfl

end Sys2Proof.Machine
end

section
/-! Long cards and the SNAPSHOT card (R145, R149, R150, R168). -/

namespace Sys2Proof.Machine

theorem progressOccasion_of_rootless {s : State} (h : s.root = none) : progressOccasion s = s := by
  rw [progressOccasion, h]

theorem progressOccasion_of_writing {s : State} {r : Root} (root : s.root = some r) (writing : s.progress.inFlight.isSome = true) :
    progressOccasion s = s.setProgress { s.progress with again := true } := by
  rw [progressOccasion, root]
  exact if_pos writing

theorem progressOccasion_of_free {s : State} {r : Root} (root : s.root = some r) (free : ¬ s.progress.inFlight.isSome = true) :
    progressOccasion s = beginProgress r s := by
  rw [progressOccasion, root]
  exact if_neg free

theorem setDue_taken_back {s : State} (quiet : s.due = []) (ds : List Due) : (s.setDue ds).setDue [] = s := by
  rw [← quiet]
  rfl

/-! ### What does not read the list of due ends -/

section
variable (ds : List Due) (s : State)

theorem progressOccasion_setDue : progressOccasion (s.setDue ds) = (progressOccasion s).setDue ds := by
  cases root : s.root with
  | none => rw [progressOccasion_of_rootless (s := s.setDue ds) root, progressOccasion_of_rootless root]
  | some r =>
    by_cases writing : s.progress.inFlight.isSome = true
    · rw [progressOccasion_of_writing (s := s.setDue ds) root writing, progressOccasion_of_writing root writing]
      rfl
    · rw [progressOccasion_of_free (s := s.setDue ds) root writing, progressOccasion_of_free root writing]
      rfl

theorem readerOff_setDue : readerOff (s.setDue ds) = (readerOff s).setDue ds := by
  simp only [readerOff, State.setDue_reader, progressOccasion_setDue]
  split <;> rfl

theorem afterCard_setDue : afterCard (s.setDue ds) = (afterCard s).setDue ds := by
  simp only [afterCard, State.setDue_engine, readerOff_setDue]
  split <;> rfl

theorem keepLong_setDue (k : LongKind) (h : Hand) : keepLong k h (s.setDue ds) = (keepLong k h s).setDue ds :=
  afterCard_setDue ds (passCard h (s.setReader (s.reader.setLong k (some { addr := h.addr, notify := h.notify, outcome := none }))))

theorem takeSnapshot_setDue (r : Root) (src : SnapSource) (clear : Bool) :
    takeSnapshot r src clear (s.setDue ds) = (takeSnapshot r src clear s).setDue ds := by
  cases clear <;> rfl

end

/-! ### The reader at a stop -/

theorem readerOff_reader (s : State) :
    (readerOff s).reader = { s.reader with state := .off, again := false, finished := false, hand := none } := by
  simp only [readerOff]
  split
  · rw [State.setReader_reader, show (progressOccasion s).reader = s.reader from progressOccasion_same s .reader (by decide)]
  · rfl

theorem readerOff_progress (s : State) :
    (readerOff s).progress = if s.reader.finished = true then (progressOccasion s).progress else s.progress := by
  simp only [readerOff]
  split <;> rfl

/-- The list of long cards with a card in it, and the reader passed on to the next (R168, R170). -/
def Reader.keeping (k : LongKind) (h : Hand) (slots : Nat) (r : Reader) : Reader :=
  { r.setLong k (some { addr := h.addr, notify := h.notify, outcome := none }) with
    hand := none, nextTag := (r.nextTag + 1) % 65536, scanPos := (h.slot + 1) % slots, streak := 0 }

theorem setLong_parts (k : LongKind) (x : Option LongCard) (r : Reader) : (r.setLong k x).nextTag = r.nextTag
    ∧ (r.setLong k x).finished = r.finished := by
  cases k <;> exact ⟨rfl, rfl⟩

theorem keepLong_eq (k : LongKind) (h : Hand) (s : State) : keepLong k h s =
    if s.engine.state = .stopping then readerOff (s.setReader (s.reader.keeping k h s.slotCount))
      else s.setReader (s.reader.keeping k h s.slotCount) := by
  cases k <;> rfl

theorem keepLong_reader (k : LongKind) (h : Hand) (s : State) : (keepLong k h s).reader =
    if s.engine.state = .stopping then
      { s.reader.keeping k h s.slotCount with state := .off, again := false, finished := false }
    else s.reader.keeping k h s.slotCount := by
  rw [keepLong_eq]
  split
  · rw [readerOff_reader]
    rfl
  · rfl

theorem keepLong_progress (k : LongKind) (h : Hand) (s : State) : (keepLong k h s).progress =
    if s.engine.state = .stopping ∧ s.reader.finished = true then
      (progressOccasion (s.setReader (s.reader.keeping k h s.slotCount))).progress
    else s.progress := by
  have finished : (s.reader.keeping k h s.slotCount).finished = s.reader.finished := (setLong_parts k _ s.reader).2
  rw [keepLong_eq]
  by_cases stopping : s.engine.state = .stopping
  · rw [if_pos stopping, readerOff_progress, State.setReader_reader, finished]
    by_cases ended : s.reader.finished = true
    · rw [if_pos ended, if_pos ⟨stopping, ended⟩]
    · rw [if_neg ended, if_neg fun h => ended h.2]
      rfl
  · rw [if_neg stopping, if_neg fun h => stopping h.1]
    rfl

theorem slotCount_of_root {s : State} {r : Root} (h : s.root = some r) : s.slotCount = r.slotCount := by
  rw [State.slotCount, h]
  rfl

/-! ### SNAPSHOT -/

section
variable {h : Hand} {s : State}

theorem snapshotCard_of_bad (bad : 1 < h.arg 24 1) : snapshotCard h s = snapshotRefused .badField h s := if_pos bad

theorem snapshotCard_of_writing (good : h.arg 24 1 ≤ 1) (writing : s.meter.writer.isSome = true) :
    snapshotCard h s = snapshotRefused .busy h s := by
  obtain ⟨w, writer⟩ := Option.isSome_iff_exists.mp writing
  rw [snapshotCard, if_neg (by omega), writer]

theorem snapshotCard_of_idle {r : Root} (good : h.arg 24 1 ≤ 1) (idle : s.meter.writer = none) (unlisted : s.reader.snapCard = none)
    (root : s.root = some r) : snapshotCard h s = snapshotTaken r (h.arg 24 1 == 1) h s := by
  rw [snapshotCard, if_neg (by omega), idle, unlisted, root]

end

theorem takeSnapshot_meter (r : Root) (src : SnapSource) (clear : Bool) (s : State) : (takeSnapshot r src clear s).meter =
    { s.meter with
      pickups := Vector.replicate 32 .zero, emitters := Vector.replicate 96 .zero, hold := some (holdOf src s)
      writer := some { addr := r.meterPage, seq := (s.meter.pageSeq + 1) % 4294967296, turn := 0 } } := by
  cases clear <;> rfl

theorem takeSnapshot_mix (r : Root) (src : SnapSource) (clear : Bool) (s : State) :
    (takeSnapshot r src clear s).mix = if clear = true then s.mix.clipsCleared else s.mix := by
  cases clear <;> rfl

/-- In a state settled but for an expiry of the meter interval a SNAPSHOT card acts before it (R150). -/
theorem exec_snapshot_before_expiry {s : State} (settled : Settled s) {h : Hand} {bytes : List Byte}
    (acting : s.actingOn .snapshot = some (h, bytes)) :
    exec .snapshot (s.setDue [.meter]) = .next (snapshotCard h (s.setDue [.meter])) := by
  have first : settleButMeter (s.setDue [.meter]) = s.setDue [.meter] := by
    rw [settleButMeter]
    simp only [State.setDue_due, List.filter_cons, List.filter_nil, ne_eq, not_true_eq_false, decide_false, decide_true,
      Bool.false_eq_true, if_false, if_true]
    rw [setDue_taken_back settled.1, settle_of_settled settled]
  rw [exec_eq]
  refine congrArg _ ?_
  rw [show before .snapshot (s.setDue [.meter]) = settleButMeter (s.setDue [.meter]) from rfl, first]
  exact onCard_of_acting (fun h _ => snapshotCard h) (s := s.setDue [.meter]) acting

end Sys2Proof.Machine
end

section
/-! The SNAPSHOT card (R145, R149, R150). -/

namespace Sys2Proof.Machine

theorem exec_snapshot_of_acting {s : State} (settled : Settled s) {h : Hand} {bytes : List Byte}
    (acting : s.actingOn .snapshot = some (h, bytes)) : exec .snapshot s = .next (snapshotCard h s) :=
  (exec_of_settled settled _).trans (congrArg _ (onCard_of_acting (fun h _ => snapshotCard h) acting))

section
variable (r : Root) (clear : Bool) (h : Hand) (s : State)

theorem snapshotTaken_same : SameOutside [.meter, .mix, .reader, .progress] s (snapshotTaken r clear h s) :=
  ((takeSnapshot_same s r .card clear).mono (by decide)).trans ((keepLong_same (takeSnapshot r .card clear s) .snapshot h).mono (by decide))

theorem snapshotTaken_meter : (snapshotTaken r clear h s).meter = (takeSnapshot r .card clear s).meter :=
  keepLong_same (takeSnapshot r .card clear s) .snapshot h .meter (by decide)

theorem snapshotTaken_mix : (snapshotTaken r clear h s).mix = (takeSnapshot r .card clear s).mix :=
  keepLong_same (takeSnapshot r .card clear s) .snapshot h .mix (by decide)

end

/-- An expiry of the meter interval, alone due, behind a snapshot just taken counts a skip (R144). -/
theorem exec_expiry_of_writing {t : State} (due : t.due = [.meter]) (writing : t.meter.writer.isSome = true) :
    exec .meterIntervalExpiry t = .next ((t.setDue []).setMeter
      { t.meter with interval := 0, skips := (t.meter.skips + 1) % 4294967296 }) := by
  have taken : takeDue .meter t = meterExpiry (t.setDue []) := by
    rw [takeDue_of_due (by rw [due]; exact List.mem_singleton_self _), due]
    rfl
  exact congrArg Host.Outcome.next (taken.trans (meterExpiry_of_writing (s := t.setDue []) writing))

/-- An expiry of the meter interval, alone due, at an idle writer takes the snapshot (R144, R145). -/
theorem exec_expiry_of_idle {s : State} {r : Root} (quiet : s.due = []) (idle : s.meter.writer = none) (root : s.root = some r) :
    exec .meterIntervalExpiry (s.setDue [.meter]) = .next (takeSnapshot r .interval false (s.setMeter { s.meter with interval := 0 })) := by
  have taken : takeDue .meter (s.setDue [.meter]) = meterExpiry s := by
    rw [takeDue_of_due (List.mem_singleton_self _), State.setDue_due, List.erase_cons_head, setDue_taken_back quiet]
    rfl
  exact congrArg Host.Outcome.next (taken.trans (meterExpiry_of_idle idle root))

/-- Settles O52: the card by its completion or by `snapshotTaken`; beside an expiry, the card's snapshot read without the list of due ends. -/
theorem snapshotCardTakesOrRefuses : Obligations.SnapshotCardTakesOrRefuses := by
  refine ⟨fun s h bytes settled acting => ?_, fun s h bytes r settled acting good idle unlisted root => ?_⟩
  · intro refused
    rw [exec_snapshot_of_acting settled acting]
    refine ⟨fun bad => congrArg _ (snapshotCard_of_bad bad), fun good writing => congrArg _ (snapshotCard_of_writing good writing),
      fun r good idle unlisted root => ⟨_, congrArg _ (snapshotCard_of_idle good idle unlisted root), ?_⟩⟩
    have taken := takeSnapshot_same s r .card (h.arg 24 1 == 1)
    have slots : (takeSnapshot r .card (h.arg 24 1 == 1) s).slotCount = r.slotCount :=
      slotCount_of_root ((taken .root (by decide)).trans root)
    have reader : (takeSnapshot r .card (h.arg 24 1 == 1) s).reader = s.reader := taken .reader (by decide)
    have engine : (takeSnapshot r .card (h.arg 24 1 == 1) s).engine = s.engine := taken .engine (by decide)
    have progress : (takeSnapshot r .card (h.arg 24 1 == 1) s).progress = s.progress := taken .progress (by decide)
    have meter := snapshotTaken_meter r (h.arg 24 1 == 1) h s
    refine ⟨?_, ?_, ?_, snapshotTaken_same r _ h s⟩
    · rw [meter, takeSnapshot_meter]
      rfl
    · rw [snapshotTaken_mix, takeSnapshot_mix]
      simp only [beq_iff_eq]
      rfl
    · intro moved
      have move : s.reader.keeping .snapshot h r.slotCount = moved := rfl
      refine ⟨?_, ?_⟩
      · rw [snapshotTaken, keepLong_reader, reader, engine, slots, move]
      · rw [meter, snapshotTaken, keepLong_progress, reader, engine, slots, progress, move]
        refine if_congr Iff.rfl (progressOccasion_congr (ps := [.mix]) ?_ (by decide)) rfl
        cases h.arg 24 1 == 1 <;> simp [sameOutside_iff, takeSnapshot]
  · intro both
    let clear := h.arg 24 1 == 1
    let t := snapshotTaken r clear h both
    let v := takeSnapshot r .interval false (s.setMeter { s.meter with interval := 0 })
    have card : exec .snapshot both = .next t :=
      (exec_snapshot_before_expiry settled acting).trans (congrArg _ (snapshotCard_of_idle (s := both) good idle unlisted root))
    have alone : exec .snapshot s = .next (t.setDue []) := by
      have same : t.setDue [] = snapshotTaken r clear h (both.setDue []) :=
        (keepLong_setDue [] _ .snapshot h).symm.trans (congrArg (keepLong .snapshot h) (takeSnapshot_setDue [] both r .card clear).symm)
      rw [exec_snapshot_of_acting settled acting, snapshotCard_of_idle good idle unlisted root, same, setDue_taken_back settled.1]
    have meter : t.meter = (takeSnapshot r .card clear both).meter := snapshotTaken_meter r clear h both
    rw [takeSnapshot_meter] at meter
    have due : t.due = [.meter] := snapshotTaken_same r clear h both .due (by decide)
    have skipped := exec_expiry_of_writing due (by rw [meter]; rfl)
    have first : exec .meterIntervalExpiry both = .next v := exec_expiry_of_idle settled.1 idle root
    have vSettled : Settled v := settled.congr rfl rfl rfl rfl rfl
    have vMeter := takeSnapshot_meter r .interval false (s.setMeter { s.meter with interval := 0 })
    have busy : exec .snapshot v = .next (snapshotRefused .busy h v) := by
      rw [exec_snapshot_of_acting vSettled (s := v) acting, snapshotCard_of_writing good (by rw [vMeter]; rfl)]
    refine ⟨t, _, v, _, card, skipped, first, busy, alone, due, rfl, settled.1, ?_, rfl, ?_, ?_, ?_, rfl, rfl, rfl⟩
    · rw [meter]
      rfl
    · rw [State.setMeter_meter, meter]
      rfl
    · rw [State.setMeter_meter, meter]
      rfl
    · rw [State.setMeter_meter, meter]
      rfl

end Sys2Proof.Machine
end

section
/-! The transfers of the meter page (R147, R148, R178). -/

namespace Sys2Proof.Machine

/-! ### The end of a long card's action (R168) -/

theorem endLong_eq (k : LongKind) (c : Completion) (s : State) : endLong k c s =
    s.setReader (s.reader.setLong k ((s.reader.longCard k).map fun l => { l with outcome := some c })) := by
  cases kept : s.reader.longCard k with
  | none =>
    have same : s.reader.setLong k none = s.reader := by
      rw [← kept]
      cases k <;> rfl
    rw [endLong, kept, Option.map_none, same]
    rfl
  | some l =>
    rw [endLong, kept]
    rfl

theorem endSnapshot_reader (r : Result) (hold : Hold) (s : State) : (endSnapshot r hold s).reader =
    { s.reader with snapCard := if hold.source = .card then
        s.reader.snapCard.map fun l => { l with outcome := some (snapshotCompletion r s.meter.pageSeq hold) }
      else s.reader.snapCard } := by
  rw [endSnapshot]
  split
  · rw [endLong_eq]
    rfl
  · rfl

/-! ### The bytes of the page (R178) -/

/-- The READY header's fields in order, with their widths (R178). -/
def readyFields (h : Hold) (seq : Nat) : List (Nat × Nat) :=
  [(1, 1), (1, h.source.code), (2, 0), (4, seq), (4, h.skips), (12, flagsNat h.emitterClip.toList),
    (2, flagsNat h.tailClip.toList), (38, 0)]

theorem readyHeader_eq (h : Hold) (seq : Nat) : readyHeader h seq = laid (readyFields h seq) := by
  unfold readyHeader readyFields
  simp only [laid, List.append_assoc, List.append_nil, leBytes_zero, flagBytes]

theorem readyHeader_length (h : Hold) (seq : Nat) : (readyHeader h seq).length = 64 := by
  rw [readyHeader_eq, laid_length]
  rfl

theorem field_readyHeader {h : Hold} {seq : Nat} {x : Nat × Nat × Nat} (listed : x ∈ placedFrom 0 (readyFields h seq)) :
    field (readyHeader h seq) x.1 x.2.1 = x.2.2 % 256 ^ x.2.1 := by
  have whole := field_laid [] listed
  rwa [List.append_nil, ← readyHeader_eq] at whole

/-- Flags that fit a field stand in it. -/
theorem flagsNat_mod {fs : List Bool} {n : Nat} (h : fs.length = 8 * n) : flagsNat fs % 256 ^ n = flagsNat fs := by
  refine Nat.mod_eq_of_lt ?_
  rw [show 256 = 2 ^ 8 from rfl, ← Nat.pow_mul, ← h]
  exact flagsNat_lt fs

theorem writingHeader_fields (seq : Nat) : (writingHeader seq).length = 64 ∧ field (writingHeader seq) 0 1 = 0
    ∧ field (writingHeader seq) 4 4 = seq % 2 ^ 32 := by
  refine ⟨?_, ?_, ?_⟩
  · simp [writingHeader]
  · simp only [writingHeader, List.append_assoc]
    exact field_leBytes_append 1 0 _
  · simp only [writingHeader, List.append_assoc]
    rw [field_past_leBytes _ _ _ (by decide), field_append_right _ _ (show [Config.writingHeader seq 1].length ≤ 3 by simp)]
    exact (field_past_zeros _ 4 (Nat.le_refl 2)).trans (field_leBytes_append 4 seq _)

theorem pageRecords_length (h : Hold) : (pageRecords h).length = 128 := by
  simp [pageRecords]

theorem pageRecords_pickup (h : Hold) (p : Fin 32) :
    (pageRecords h)[p.val]? = some (pickupRecordBytes h.pickups[p] h.records[p]) := by
  simp [pageRecords, List.getElem?_append_left]

theorem pageRecords_emitter (h : Hold) (e : Fin 96) :
    (pageRecords h)[32 + e.val]? = some (emitterRecordBytes h.emitters[e] h.emitterClip[e] h.clipBlocks[e]) := by
  simp [pageRecords, List.getElem?_append_right]

/-! ### Its transfers -/

section
variable (hold : Hold) {w : PageWrite}

theorem pageTransfer_first (h : w.turn = 0) : pageTransfer hold w = { addr := w.addr, bytes := writingHeader w.seq } := if_pos h

theorem pageTransfer_last (h : 14 ≤ w.turn) : pageTransfer hold w = { addr := w.addr, bytes := readyHeader hold w.seq } :=
  (if_neg (by omega)).trans (if_neg (by omega))

theorem pageTransfer_between (first : 1 ≤ w.turn) (last : w.turn ≤ 13) : pageTransfer hold w =
    { addr := w.addr + 64 + 240 * (w.turn - 1), bytes := (((pageRecords hold).drop (10 * (w.turn - 1))).take 10).flatten } :=
  (if_neg (by omega)).trans (if_pos (by omega))

/-- A transfer that lands after the last of the records (R147). -/
theorem pageWriteEnds_of_ready {s : State} (writing : s.meter.writer = some w) (held : s.meter.hold = some hold) (last : 14 ≤ w.turn) :
    pageWriteEnds true s = pageReady hold w (land (pageTransfer hold w) s) := by
  rw [pageWriteEnds, writing, held]
  exact (if_pos rfl).trans (if_neg (by omega))

theorem pageWriteEnds_of_failed {s : State} (writing : s.meter.writer = some w) (held : s.meter.hold = some hold) :
    pageWriteEnds false s = pageFails hold s := by
  rw [pageWriteEnds, writing, held]
  exact if_neg (by decide)

end

/-- Settles O53: the page's ends by `pageReady` and `pageFails`, its bytes by the layout of header and records. -/
theorem meterPageTransfersEnd : Obligations.MeterPageTransfersEnd := by
  refine ⟨fun s w hold settled writing held => ?_, fun hold w => ⟨fun first => ?_, fun last => ?_, fun first last => ?_,
    pageRecords_length hold, pageRecords_pickup hold, fun e => ?_⟩⟩
  · intro x card
    have ends : ∀ ok, exec (.meterPageWriteEnd ok) s = .next (pageWriteEnds ok s) := fun ok => exec_of_settled settled _
    refine ⟨fun early => ?_, fun last => ⟨_, (ends true).trans (congrArg _ (pageWriteEnds_of_ready hold writing held last)), ?_⟩,
      ⟨_, (ends false).trans (congrArg _ (pageWriteEnds_of_failed hold writing held)), ?_⟩⟩
    · rw [ends, pageWriteEnds, writing, held]
      exact congrArg _ ((if_pos rfl).trans (if_pos early))
    · let t := (land x s).setMeter { s.meter with writer := none, pageSeq := w.seq }
      have alike : EventsAlike s t := .of_same (ps := [.hostMem, .meter]) (by simp [sameOutside_iff, t, land]) (by decide)
      have ended := endSnapshot_same (raise .meter .meters t) .ok hold
      have whole : SameOutside [.hostMem, .meter, .notice] s (raise .meter .meters t) := by simp [sameOutside_iff, t, land]
      refine ⟨ended .hostMem (by decide), ended .meter (by decide), (ended .notice (by decide)).trans (alike.raise _ _).notice, ?_,
        ended.after whole (by decide) (by decide)⟩
      exact endSnapshot_reader .ok hold (raise .meter .meters t)
    · let t := s.setMeter { s.meter with writer := none, hold := none }
      have alike : EventsAlike s t := .of_same (ps := [.meter]) (by simp [sameOutside_iff, t]) (by decide)
      have ended := endSnapshot_same (setFault .meter .memory t) .link hold
      have faulted := setFault_same t .meter .memory
      have whole : SameOutside [.meter, .regs, .notice] s (setFault .meter .memory t) :=
        faulted.after (ps := [.meter]) (by simp [sameOutside_iff, t]) (by decide) (by decide)
      refine ⟨ended.after whole (by decide) (by decide), (ended .meter (by decide)).trans (faulted .meter (by decide)),
        (ended .regs (by decide)).trans (setFault_regs _ _ _), (ended .notice (by decide)).trans (alike.setFault _ _).notice, ?_⟩
      have reader : (setFault .meter .memory t).reader = s.reader := faulted .reader (by decide)
      have meter : (setFault .meter .memory t).meter = t.meter := faulted .meter (by decide)
      refine (endSnapshot_reader .link hold (setFault .meter .memory t)).trans ?_
      rw [reader, meter]
      rfl
  · rw [pageTransfer_first hold first]
    obtain ⟨length, state, seq⟩ := writingHeader_fields w.seq
    exact ⟨rfl, length, state, seq⟩
  · rw [pageTransfer_last hold last]
    have small : hold.source.code % 256 = hold.source.code := by cases hold.source <;> rfl
    have fields : ∀ x ∈ placedFrom 0 (readyFields hold w.seq), field (readyHeader hold w.seq) x.1 x.2.1 = x.2.2 % 256 ^ x.2.1 :=
      fun x listed => field_readyHeader listed
    simp only [readyFields, placedFrom, List.forall_mem_cons, Nat.zero_add, Nat.reduceAdd] at fields
    obtain ⟨state, code, pad, seq, skips, clip, tail, rest, -⟩ := fields
    refine ⟨rfl, readyHeader_length hold w.seq, state, (code.trans small).trans ?_, pad, seq, skips, clip.trans (flagsNat_mod (by simp)),
      tail.trans (flagsNat_mod (by simp)), rest⟩
    cases hold.source <;> rfl
  · rw [pageTransfer_between hold first last]
    exact ⟨rfl, rfl⟩
  · have clip : leBytes 1 hold.emitterClip[e].toNat = [if hold.emitterClip[e] then 1 else 0] := by cases hold.emitterClip[e] <;> rfl
    rw [pageRecords_emitter, emitterRecordBytes, clip]
    rfl

end Sys2Proof.Machine
end

section
/-! The completion of a long card (R168, R181). -/

namespace Sys2Proof.Machine

theorem EventsAlike.dropLong {s t : State} (h : EventsAlike s t) (k : LongKind) : EventsAlike (dropLong k s) (dropLong k t) := by
  obtain ⟨regs, notice, root, progress, reader⟩ := h
  refine ⟨regs, ?_, root, progress, ?_⟩
  · simp only [Machine.dropLong, State.setNotice_notice, notice]
  · simp only [Machine.dropLong, State.setNotice_reader, State.setReader_reader, reader]

/-- With the reader of the state after it, the state before differs in the other parts alone. -/
theorem SameOutside.setReader {ps : List Part} {s t : State} (h : SameOutside (.reader :: ps) s t) :
    SameOutside ps (s.setReader t.reader) t := by
  intro p apart
  cases p with
  | reader => rfl
  | _ => exact h _ (List.not_mem_cons_of_ne_of_not_mem (by decide) apart)

theorem countFinished_reader (b : Raiser) (notify : Bool) (s : State) : (countFinished b notify s).reader =
    { s.reader with cardsFinished := (s.reader.cardsFinished + 1) % 4294967296 } := by
  cases notify <;> rfl

/-- The count of the finished card is no part of what a notice shows (R179, R181). -/
theorem countFinished_notice (b : Raiser) (notify : Bool) (s : State) : (countFinished b notify s).notice =
    if notify = true then (raise b .card s).notice else s.notice := by
  cases notify <;> rfl

section
variable {s : State} {k : LongKind} {l : LongCard} {c : Completion}

theorem longEnds_of_whole (listed : s.reader.longCard k = some l) (ended : l.outcome = some c) : longEnds k none s =
    progressOccasion (countFinished .linkPort l.notify (dropLong k (landAll (completionTransfers l.addr c) s))) := by
  rw [longEnds, listed]
  simp only [ended]

theorem longEnds_of_failed (listed : s.reader.longCard k = some l) (ended : l.outcome = some c) {i : Nat}
    (within : i < (completionTransfers l.addr c).length) : longEnds k (some i) s =
      setFault .linkPort .memory (dropLong k (landAll ((completionTransfers l.addr c).take i) s)) := by
  rw [longEnds, listed]
  simp only [ended]
  exact if_pos within

end

/-- Settles O57: the transfers land, the card leaves the list, and the notice unit acts as it would before they landed (`EventsAlike`). -/
theorem longCardsCompleteLater : Obligations.LongCardsCompleteLater := by
  intro s k l c settled listed ended xs gone free freeWrite freed left
  have listed : s.reader.longCard k = some l := by cases k <;> exact listed
  have dropped : dropLong k s = left := by cases k <;> rfl
  have gone_eq : s.reader.setLong k none = gone := by cases k <;> rfl
  have finished : gone.cardsFinished = s.reader.cardsFinished := by cases k <;> rfl
  have alike : ∀ ts, EventsAlike left (dropLong k (landAll ts s)) := fun ts => by
    rw [← dropped]
    exact (EventsAlike.of_same (landAll_same s ts) (by decide)).dropLong k
  have reader : ∀ ts, (dropLong k (landAll ts s)).reader = gone := fun ts =>
    (alike ts).reader
  have landed : ∀ ts, SameOutside [.hostMem, .reader, .notice] s (dropLong k (landAll ts s)) := fun ts =>
    ((landAll_same s ts).mono (by decide)).trans ((dropLong_same (landAll ts s) k).mono (by decide))
  have ends : ∀ f, exec (.longCardCompletion k f) s = .next (longEnds k f s) := fun f => exec_of_settled settled _
  refine ⟨⟨_, (ends none).trans (congrArg _ (longEnds_of_whole listed ended)), ?_⟩, fun i within =>
    ⟨_, (ends (some i)).trans (congrArg _ (longEnds_of_failed listed ended within)), ?_⟩⟩
  · let u := dropLong k (landAll xs s)
    let v := countFinished .linkPort l.notify u
    have counted := countFinished_same u .linkPort l.notify
    have occasion := progressOccasion_same v
    have whole : SameOutside [.hostMem, .reader, .notice] s v :=
      counted.after (landed xs) (List.Subset.refl _) (by decide)
    have mem : v.hostMem = (landAll xs s).hostMem :=
      (counted .hostMem (by decide)).trans (dropLong_same (landAll xs s) k .hostMem (by decide))
    have shown : v.reader = { gone with cardsFinished := (s.reader.cardsFinished + 1) % 4294967296 } := by
      rw [countFinished_reader, reader, finished]
    have after : (progressOccasion v).reader = v.reader := occasion .reader (by decide)
    refine ⟨(occasion .hostMem (by decide)).trans (mem.trans (landAll_hostMem xs s)), after.trans shown, ?_, ?_,
      occasion.after whole (by decide) (by decide)⟩
    · rw [occasion .notice (by decide), countFinished_notice, ((alike xs).raise .linkPort .card).notice, (alike xs).notice]
      rfl
    · rw [after]
      exact progressOccasion_congr (whole.mono (by decide)).setReader (ps := [.hostMem, .notice]) (by decide)
  · let u := dropLong k (landAll (xs.take i) s)
    have faulted := setFault_same u .linkPort .memory
    have mem : u.hostMem = (landAll (xs.take i) s).hostMem := dropLong_same (landAll (xs.take i) s) k .hostMem (by decide)
    have regs : u.regs = s.regs := landed _ .regs (by decide)
    refine ⟨(faulted .hostMem (by decide)).trans (mem.trans (landAll_hostMem _ s)), (faulted .reader (by decide)).trans (reader _), ?_,
      ((alike _).setFault .linkPort .memory).notice, faulted.after (landed _) (by decide) (by decide)⟩
    exact (setFault_regs .linkPort .memory u).trans (by rw [regs]; rfl)

end Sys2Proof.Machine
end

section
/-! The PROTECT card and the blow of the fuse (R185 to R187). -/

namespace Sys2Proof.Machine

theorem ofFlags_of_other {n : Nat} (h : n ∉ [1, 2, 4, 8, 16]) : ProtAction.ofFlags n = none := by
  unfold ProtAction.ofFlags
  split <;> simp_all

theorem protectCard_of_chosen {a : ProtAction} {h : Hand} (act : Hand → State → State) (s : State)
    (chosen : ProtAction.ofFlags (h.arg 24 1) = some a) : protectCard a act h s = act h s := by
  rw [protectCard, chosen]
  exact if_pos rfl

theorem protectCard_of_bad (a : ProtAction) {h : Hand} (act : Hand → State → State) (s : State)
    (bad : h.arg 24 1 ∉ [1, 2, 4, 8, 16]) : protectCard a act h s = protectDone h (.badField, s.prot) s := by
  rw [protectCard, ofFlags_of_other bad]

/-- The comparison of codes and what it leaves (R186). -/
theorem protectDone_compareCode (h : Hand) (s : State) (matched : Protect → Protect) (few : s.prot.wrong ≤ 5) :
    protectDone h (compareCode h.code matched s.prot) s =
      if s.prot.wrong = 5 then protectDone h (.lockedOut, s.prot) s
      else if s.prot.code = some h.code then protectDone h (.ok, matched s.prot) s
      else protectDone h (.wrongCode, { s.prot with wrong := s.prot.wrong + 1 }) s := by
  have full : 5 ≤ s.prot.wrong ↔ s.prot.wrong = 5 := by omega
  rw [compareCode, apply_ite (protectDone h · s), apply_ite (protectDone h · s)]
  exact if_congr full rfl rfl

section
variable {s : State} {h : Hand} {bytes : List Byte}

/-- What a PROTECT card in hand leaves under the command of an action (R185). -/
theorem exec_protectCard (settled : Settled s) (acting : s.actingOn .protect = some (h, bytes)) {c : Instr} {a : ProtAction}
    {f : Hand → State → State} (is : act c s = onCard .protect (fun h _ => protectCard a f h) s) :
    exec c s = .next (protectCard a f h s) :=
  (exec_of_settled settled c).trans (congrArg _ (is.trans (onCard_of_acting _ acting)))

end

/-- Settles O58: each action by the protection state, with the comparison by `protectDone_compareCode`. -/
theorem protectActionsByState : Obligations.ProtectActionsByState := by
  refine ⟨fun s h bytes settled acting => ?_, fun s h settled held blowing => ?_⟩
  · intro done compared
    have setCode := exec_protectCard (c := .setCode) settled acting rfl
    have unlock := exec_protectCard (c := .unlock) settled acting rfl
    have relock := exec_protectCard (c := .relock) settled acting rfl
    have clearCode := exec_protectCard (c := .clearCode) settled acting rfl
    have fix := exec_protectCard (c := .fix) settled acting rfl
    refine ⟨fun flags => ?_, fun few flags => ?_, fun flags => ?_, fun few flags => ?_, fun flags => ?_, fun bad => ?_⟩
    · rw [setCode, protectCard_of_chosen _ _ (by rw [flags]; rfl)]
      show Host.Outcome.next (protectDone h (protSetCode h.code s.prot) s) = _
      rw [protSetCode]
      cases s.prot.state <;> rfl
    · rw [unlock, protectCard_of_chosen _ _ (by rw [flags]; rfl)]
      show Host.Outcome.next (protectDone h (protUnlock h.code s.prot) s) = _
      rw [protUnlock]
      cases s.prot.state with
      | locked => exact congrArg _ (protectDone_compareCode h s _ few)
      | _ => rfl
    · rw [relock, protectCard_of_chosen _ _ (by rw [flags]; rfl)]
      show Host.Outcome.next (protectDone h (protRelock s.prot) s) = _
      rw [protRelock]
      cases s.prot.state <;> rfl
    · rw [clearCode, protectCard_of_chosen _ _ (by rw [flags]; rfl)]
      show Host.Outcome.next (protectDone h (protClearCode h.code s.prot) s) = _
      rw [protClearCode]
      cases s.prot.state with
      | locked | opened => exact congrArg _ (protectDone_compareCode h s _ few)
      | _ => rfl
    · rw [fix, protectCard_of_chosen _ _ (by rw [flags]; rfl), fixCard, protFix]
      cases s.prot.state <;> rfl
    · rw [setCode, unlock, relock, clearCode, fix]
      simp only [protectCard_of_bad _ _ _ bad]
      exact ⟨rfl, rfl, rfl, rfl, rfl⟩
  · have ends : ∀ blown, exec (.fuseBlowEnd blown) s = .next (protectDone h (blowResult blown s.prot) s) := fun blown => by
      rw [exec_of_settled settled]
      refine congrArg _ ?_
      show blowEnds blown s = _
      rw [blowEnds, held]
      simp only [blowing]
    exact ⟨ends true, ends false⟩

end Sys2Proof.Machine
end

section
/-! The STORE card and its write (R168, R190, R191). -/

namespace Sys2Proof.Machine

theorem field_imageBytes_state (i : Image) : field (imageBytes i) 4 1 = i.state.code % 256 := by
  simp only [imageBytes, imageBody, List.append_assoc]
  rw [field_past_leBytes _ _ _ (Nat.le_refl 4)]
  exact field_leBytes_append 1 _ _

/-- An erased flash area is no image's (R189). -/
theorem erasedFlash_ne_imageBytes (i : Image) : erasedFlash ≠ imageBytes i := by
  intro same
  have erased : field erasedFlash 4 1 = 255 := rfl
  rw [same, field_imageBytes_state] at erased
  cases state : i.state <;> rw [state] at erased <;> exact absurd erased (by decide)

theorem capturedCode_of_none {p : Protect} (seq : Nat) (h : p.state = .none) : capturedCode seq p = Vector.replicate 32 0 := by
  rw [capturedCode, h]

theorem capturedCode_of_held {p : Protect} {k : Code} (seq : Nat) (h : p.state ≠ .none) (held : p.code = some k) :
    capturedCode seq p = k := by
  rw [capturedCode, held]
  split <;> simp_all

theorem captured_eq (st : ProtState) : st.captured = if st = .opened then .locked else st := by
  cases st <;> rfl

theorem storeCardActs_of_idle {s : State} {h : Hand} (idle : s.store.state = .idle) (unlisted : s.reader.storeCard = none) :
    storeCardActs h s = keepLong .store h (beginStore s) := by
  rw [storeCardActs, idle, unlisted]
  rfl

/-- The verify matches where the flash answers and holds the image (R190). -/
theorem flashRead_eq_iff (answers : Bool) (s : State) (i : Image) :
    flashRead answers s = imageBytes i ↔ answers = true ∧ s.store.flash = imageBytes i := by
  cases answers with
  | true => simp [flashRead]
  | false => simpa [flashRead] using erasedFlash_ne_imageBytes i

/-- Settles O59: the card by its completion or the capture kept as a long card; each end of the write by the store's state. -/
theorem storeCapturesAndWrites : Obligations.StoreCapturesAndWrites := by
  refine ⟨fun s h bytes settled acting => ?_, fun s i settled => ?_⟩
  · have card : exec .store s = .next (storeCardActs h s) :=
      (exec_of_settled settled _).trans (congrArg _ (onCard_of_acting (fun h _ => storeCardActs h) acting))
    rw [card]
    refine ⟨fun p i writing => ?_, fun idle unlisted =>
      ⟨_, captureImage s, congrArg _ (storeCardActs_of_idle idle unlisted), ?_⟩⟩
    · rw [storeCardActs, writing]
      rfl
    · have kept := keepLong_same (beginStore s) .store h
      have store : (keepLong .store h (beginStore s)).store = (beginStore s).store := kept .store (by decide)
      have begun : SameOutside [.store] s (beginStore s) := by simp [sameOutside_iff, beginStore]
      refine ⟨store, ?_, rfl, rfl, rfl, fun p => ?_, captured_eq s.prot.state, capturedCode_of_none _,
        fun k locked held => capturedCode_of_held _ locked held, ?_, kept.after begun (by decide) (by decide)⟩
      · rw [store]
        exact imageOfBytes_erased
      · simp [captureImage]
      · intro moved
        have move : (beginStore s).reader.keeping .store h (beginStore s).slotCount = moved := rfl
        refine ⟨?_, ?_⟩
        · rw [keepLong_reader, move]
          rfl
        · rw [keepLong_progress, move, store]
          rfl
  · intro ended
    have erases : exec .storeEraseEnd s = .next (eraseEnds s) := exec_of_settled settled _
    refine ⟨fun state => ?_, fun state f => ?_, fun state a => ?_, fun state => ?_⟩
    · rw [erases, eraseEnds, state]
      rfl
    · rw [exec_of_settled settled]
      refine congrArg _ ?_
      show programEnds f s = _
      rw [programEnds, state]
    · rw [exec_of_settled settled]
      refine congrArg _ ?_
      show verifyEnds a s = _
      rw [verifyEnds, state]
      refine if_congr (flashRead_eq_iff a s i) ?_ rfl
      rw [verifyMatches, endLong_eq]
      rfl
    · rw [erases, eraseEnds, state]
      refine congrArg _ ?_
      show clearEnds s = _
      rw [clearEnds, endLong_eq]
      rfl

end Sys2Proof.Machine
end

section
/-! The REPORT card, its transfers and its entries (R22 to R25, R177). -/

namespace Sys2Proof.Machine

theorem refusedWhole_report {h : Hand} (r : Result) (s : State) (kind : h.kind = some .report) : refusedWhole r h s =
    { result := r, remaining := h.count, detail := 0,
      returns := [(32, leBytes 2 0 ++ leBytes 2 s.table.length ++ leBytes 2 s.stager.cueCounter)] } := by
  unfold refusedWhole returnsAsStands
  rw [kind]
  rfl

/-- A report entry's fields in order, with their widths (R24, R177). -/
def reportEntryFields (e : Entry) : List (Nat × Nat) :=
  [(1, e.key.sourceCode), (1, e.key.destCode), (1, e.motion.code), (1, 0), (2, (e.requested % 65536).toNat),
    (2, (e.target % 65536).toNat), (2, (e.current % 65536).toNat), (2, e.delay), (2, e.motion.remaining), (2, e.lastCue)]

theorem reportEntryBytes_eq (e : Entry) : reportEntryBytes e = laid (reportEntryFields e) := by
  unfold reportEntryBytes reportEntryFields
  simp only [laid, List.append_assoc, List.append_nil, leBytes_zero]
  rfl

theorem reportEntryBytes_length (e : Entry) : (reportEntryBytes e).length = 16 := by
  rw [reportEntryBytes_eq, laid_length]
  rfl

theorem field_reportEntryBytes {e : Entry} {x : Nat × Nat × Nat} (listed : x ∈ placedFrom 0 (reportEntryFields e)) :
    field (reportEntryBytes e) x.1 x.2.1 = x.2.2 % 256 ^ x.2.1 := by
  have whole := field_laid [] listed
  rwa [List.append_nil, ← reportEntryBytes_eq] at whole

/-- A signed 16-bit number read from a field that holds it (R6). -/
theorem field16s_of_field {b : List Byte} {i : Nat} {g : Int} (h : field b i 2 = (g % 65536).toNat % 256 ^ 2) (gain : isGain g) :
    field16s b i = g := by
  obtain ⟨low, high⟩ := gain
  rw [field16s_eq, h]
  split <;> omega

theorem reportCopy_length (start count : Nat) (table : List Entry) : ((table.drop start).take count).length =
    if start < table.length then min count (table.length - start) else 0 := by
  rw [List.length_take, List.length_drop]
  split
  · rfl
  · omega

/-- Settles O60: the card by its three outcomes, a transfer by whether entries are left, and an entry by its layout. -/
theorem reportCopiesAndWrites : Obligations.ReportCopiesAndWrites := by
  refine ⟨fun s h bytes settled acting => ?_, fun s h rest n w total cue settled held reporting => ?_, fun e => ?_⟩
  · intro copy
    refine ⟨reportCopy_length _ _ _, ?_⟩
    rw [exec_of_settled settled]
    refine congrArg _ ((onCard_of_acting (fun h _ => reportCard h) acting).trans ?_)
    rw [reportCard]
    by_cases aligned : h.listAddr % 8 = 0
    · rw [if_pos aligned, if_neg (not_not_intro aligned), reportBegins]
      exact if_congr List.isEmpty_iff rfl rfl
    · rw [if_neg aligned, if_pos aligned, reportRefused, refusedWhole_report _ _ (actingOn_kind acting)]
  · intro returns landed
    have ends : ∀ ok, exec (.reportTransferEnd ok) s = .next (reportTransferEnds ok s) := fun ok => exec_of_settled settled _
    refine ⟨?_, ?_⟩
    · rw [ends, reportTransferEnds, held]
      have whole : (rest.drop 16).isEmpty = true ↔ rest.length ≤ 16 := by rw [List.isEmpty_iff, List.drop_eq_nil_iff]
      simp only [reporting, if_true, reportCompletion, Nat.sub_self]
      exact congrArg _ (if_congr whole rfl rfl)
    · rw [ends, reportTransferEnds, held]
      simp only [reporting]
      rfl
  · have fields : ∀ x ∈ placedFrom 0 (reportEntryFields e), field (reportEntryBytes e) x.1 x.2.1 = x.2.2 % 256 ^ x.2.1 :=
      fun x listed => field_reportEntryBytes listed
    simp only [reportEntryFields, placedFrom, List.forall_mem_cons, Nat.zero_add, Nat.reduceAdd] at fields
    obtain ⟨source, dest, state, pad, requested, target, current, delay, left, cue, -⟩ := fields
    refine ⟨reportEntryBytes_length e, ?_, ?_⟩
    · have code : e.motion.code = match e.motion with
          | .settled => 0 | .ramping _ _ => 1 | .dipDown _ _ _ _ => 2 | .dipUp _ _ => 3 | .retiring _ _ => 4 := by cases e.motion <;> rfl
      have remaining : e.motion.remaining = match e.motion with
          | .settled => 0 | .ramping _ n => n | .dipDown _ n _ _ => n | .dipUp _ n => n | .retiring _ n => n := by cases e.motion <;> rfl
      rw [code] at state
      rw [remaining] at left
      simp only [List.forall_mem_cons]
      exact ⟨source, dest, state, pad, delay, left, cue, fun _ no => absurd no List.not_mem_nil⟩
    · simp only [List.forall_mem_cons]
      exact ⟨field16s_of_field requested, field16s_of_field target, field16s_of_field current, fun _ no => absurd no List.not_mem_nil⟩

end Sys2Proof.Machine
end

section
/-! Slot reads and the end of a sweep (R164, R166, R169, R170, R175). -/

namespace Sys2Proof.Machine

/-! ### The bytes of a slot -/

theorem field_one (b : List Byte) (i : Nat) : field b i 1 = (b.getD i 0).toNat := by
  rw [field_succ, field_zero, Nat.zero_add, Nat.pow_zero, Nat.one_mul, Nat.add_zero]

theorem field_one_slot (v : Vector Byte 64) (i : Nat) (h : i < 64) : field v.toList i 1 = v[i].toNat := by
  rw [field_one, List.getD_eq_getElem?_getD, List.getElem?_eq_getElem (by simpa using h)]
  simp

theorem field_one_slot_eq (v : Vector Byte 64) (i : Nat) (h : i < 64) (x : Byte) : field v.toList i 1 = x.toNat ↔ v[i] = x := by
  rw [field_one_slot v i h, BitVec.toNat_inj]

/-- The kinds in the order of their codes (R175). -/
def kindsByCode : List CardKind :=
  [.stage, .standby, .dropStandby, .go, .ceilings, .tails, .patches, .pickups, .mutes, .snapshot, .cueLine, .protect, .store, .report]

theorem ofCode_eq (n : Nat) : CardKind.ofCode n = if n = 0 then none else kindsByCode[n - 1]? := by
  by_cases known : n < 15
  · interval_cases n <;> rfl
  · obtain ⟨m, rfl⟩ := Nat.exists_eq_add_of_le' (Nat.not_lt.mp known)
    rfl

section
variable (slot addr : Nat) (v : Vector Byte 64) (stale : Bool) (phase : Phase)

theorem ofBytes_kind : (Hand.ofBytes slot addr v stale phase).kind =
    if v[1] = 0 then none else kindsByCode[v[1].toNat - 1]? := by
  show CardKind.ofCode (field v.toList 1 1) = _
  rw [ofCode_eq, field_one_slot v 1 (by decide)]
  exact if_congr (BitVec.toNat_inj (y := 0)) rfl rfl

theorem ofBytes_count : (Hand.ofBytes slot addr v stale phase).count = if v[4] = 0 then 256 else v[4].toNat := by
  show countOf (field v.toList 4 1) = _
  rw [countOf, field_one_slot v 4 (by decide)]
  exact if_congr (BitVec.toNat_inj (y := 0)) rfl rfl

theorem ofBytes_notify : (Hand.ofBytes slot addr v stale phase).notify = v[5].getLsbD 0 := by
  show decide (field v.toList 5 1 % 2 = 1) = _
  rw [field_one_slot v 5 (by decide), BitVec.getLsbD, Nat.testBit_zero]

theorem ofBytes_args : (Hand.ofBytes slot addr v stale phase).args.toList = v.toList.drop 24 := by
  refine List.ext_getElem? fun i => ?_
  show (Vector.ofFn fun i : Fin 40 => v[24 + i.val]).toList[i]? = _
  by_cases within : i < 40
  · simp [within]
  · simp [within]

theorem ofBytes_arg (off n : Nat) (h : 24 ≤ off) : (Hand.ofBytes slot addr v stale phase).arg off n = field v.toList off n := by
  rw [Hand.arg, ofBytes_args, field, field, List.drop_drop, Nat.add_sub_cancel' h]

theorem ofBytes_code (i : Fin 32) : (Hand.ofBytes slot addr v stale phase).code[i] = v[32 + i.val] := by
  simp only [Hand.code, Hand.ofBytes, Fin.getElem_fin, Vector.getElem_ofFn]
  congr 1
  omega

end

/-! ### The reader at a failed transfer -/

theorem readerOff_eq (s : State) : readerOff s = (if s.reader.finished = true then progressOccasion s else s).setReader
    { s.reader with state := .off, again := false, finished := false, hand := none } := by
  simp only [readerOff]
  split
  · rw [show (progressOccasion s).reader = s.reader from progressOccasion_same s .reader (by decide)]
  · rfl

theorem haltReader_eq (s : State) : haltReader s =
    let u := setFault .reader .memory s
    if s.engine.state = .stopping then (if s.reader.finished = true then progressOccasion u else u).setReader
      { s.reader with state := .off, again := false, finished := false, hand := none }
    else u.setReader { s.reader with state := .halted, finished := false, hand := none } := by
  have engine : (setFault .reader .memory s).engine = s.engine := setFault_same s _ _ .engine (by decide)
  have reader : (setFault .reader .memory s).reader = s.reader := setFault_same s _ _ .reader (by decide)
  simp only [haltReader, readerOff_eq, engine, reader]

theorem Reader.withoutHand {r : Reader} (h : r.hand = none) : { r with hand := none } = r := by
  rw [← h]

/-! ### The read of a slot (R166) -/

section
variable {s : State} {r : Root}

theorem slotReadInFlight_of (sweeping : s.reader.state = .sweeping) (free : s.reader.hand = none) (root : s.root = some r)
    (more : s.reader.streak < r.slotCount) : slotReadInFlight s = true := by
  simp [slotReadInFlight, sweeping, free, slotCount_of_root root, more]

theorem slotReadEnds_of_bytes (reading : slotReadInFlight s = true) (root : s.root = some r) (v : Vector Byte 64) :
    slotReadEnds (some v) s = slotBytes r v s := by
  unfold slotReadEnds
  rw [if_pos reading, root]

theorem slotIssued_iff (v : Vector Byte 64) : slotIssued v.toList = true ↔ v[0] = 1 :=
  beq_iff_eq.trans (field_one_slot_eq v 0 (by decide) 1)

/-- A slot that is not ISSUED is passed (R166). -/
theorem slotBytes_of_free {v : Vector Byte 64} (free : v[0] ≠ 1) : slotBytes r v s = passSlot s :=
  if_neg (mt (slotIssued_iff v).mp free)

/-- An ISSUED slot is taken, passed or refused by its tag (R166). -/
theorem slotBytes_of_issued {v : Vector Byte 64} (issued : v[0] = 1) : slotBytes r v s =
    if tagDifference (slotTag v.toList) s.reader.nextTag = 0 then
      setHand (Hand.ofBytes s.scanSlot (r.cardTable + 64 * s.scanSlot) v false .taking) s
    else if tagDifference (slotTag v.toList) s.reader.nextTag < 32768 then passSlot s
    else staleCard (Hand.ofBytes s.scanSlot (r.cardTable + 64 * s.scanSlot) v true .taking) s :=
  if_pos ((slotIssued_iff v).mpr issued)

theorem endSweep_eq (s : State) : endSweep s =
    let t := if s.reader.finished = true then progressOccasion s else s
    t.setReader (if s.reader.again = true then
        { t.reader with state := .sweeping, again := false, streak := 0, finished := false }
      else { t.reader with state := .idle, finished := false }) := by
  have reader : (if s.reader.finished = true then progressOccasion s else s).reader = s.reader := by
    split
    · exact progressOccasion_same s .reader (by decide)
    · rfl
  simp only [endSweep, reader]
  split <;> rfl

end

/-- Settles O55: the bytes of numbers and of a slot, the read of a slot by its state and tag, and the sweep's end. -/
theorem sweepReadsSlotsInTagOrder : Obligations.SweepReadsSlotsInTagOrder := by
  refine ⟨fun n v i b bs fs => ⟨leBytes_length n v, leBytes_getElem? n v i, field_zero b i, field_succ b i n, field16s_eq b i, rfl,
    flagsNat_testBit fs i⟩, fun slot addr v stale phase => ⟨rfl, rfl, rfl, rfl, ofBytes_kind slot addr v stale phase,
    ofBytes_count slot addr v stale phase, ofBytes_notify slot addr v stale phase, rfl, ofBytes_arg slot addr v stale phase,
    ofBytes_code slot addr v stale phase⟩, fun s r settled sweeping free root more => ?_, fun s r settled sweeping free root last => ?_⟩
  · intro slot addr
    have reading := slotReadInFlight_of sweeping free root more
    have ends : ∀ data, exec (.slotRead data) s = .next (slotReadEnds data s) := fun data => exec_of_settled settled _
    have here : s.scanSlot = slot := by rw [State.scanSlot, slotCount_of_root root]
    refine ⟨fun v => ?_, ?_⟩
    · intro ahead passed
      rw [ends, slotReadEnds_of_bytes reading root]
      have tag : tagDifference (slotTag v.toList) s.reader.nextTag = ahead := rfl
      refine ⟨fun other => congrArg _ (slotBytes_of_free other), fun issued some_ near => ?_, fun issued due => ?_, fun issued far => ?_⟩
      · rw [slotBytes_of_issued issued, tag, if_neg (by omega), if_pos near]
        rfl
      · rw [slotBytes_of_issued issued, tag, if_pos due, here]
        rfl
      · rw [slotBytes_of_issued issued, tag, if_neg (by omega), if_neg (by omega), here]
        rfl
    · rw [ends, slotReadEnds, if_pos reading]
      refine congrArg _ ((haltReader_eq s).trans (if_congr Iff.rfl ?_ ?_))
      · exact congrArg (State.setReader _) (Reader.withoutHand (r := { s.reader with state := .off, again := false, finished := false }) free)
      · exact congrArg (State.setReader _) (Reader.withoutHand (r := { s.reader with state := .halted, finished := false }) free)
  · intro t
    have done : sweepDone s = true := by simp [sweepDone, sweeping, free, slotCount_of_root root, last]
    have ends : exec .sweepEnd s = .next (if sweepDone s then endSweep s else s) := exec_of_settled settled _
    rw [ends, if_pos done]
    exact congrArg _ (endSweep_eq s)

end Sys2Proof.Machine
end

section
/-! The reader's own writes and list reads (R164, R167, R170, R171). -/

namespace Sys2Proof.Machine

/-! ### The reader past a card -/

/-- The reader once the card in hand is over: the next slot for a stale card, else the next tag (R166, R167, R170). -/
def Reader.passed (h : Hand) (slots : Nat) (r : Reader) : Reader :=
  if h.stale then { r with streak := r.streak + 1, hand := none }
  else { r with nextTag := (r.nextTag + 1) % 65536, scanPos := (h.slot + 1) % slots, streak := 0, hand := none }

theorem passed_hand (h : Hand) (slots : Nat) (r : Reader) : (r.passed h slots).hand = none := by
  unfold Reader.passed
  split <;> rfl

/-- The reader past a card that it has finished. -/
def Reader.completed (h : Hand) (slots : Nat) (r : Reader) : Reader :=
  { r.passed h slots with finished := true, cardsFinished := (r.cardsFinished + 1) % 4294967296 }

/-- The finished card is counted, and CARD raised if it asks (R167). -/
def cardAnnounced (h : Hand) (s : State) : State :=
  if h.notify then raise .reader .card (s.setReader (s.reader.completed h s.slotCount))
  else s.setReader (s.reader.completed h s.slotCount)

theorem cardWritten_eq (h : Hand) (s : State) : cardWritten h s =
    if s.engine.state = .stopping then (progressOccasion (cardAnnounced h s)).setReader
      { s.reader.completed h s.slotCount with state := .off, again := false, finished := false }
    else cardAnnounced h s := by
  have counted : cardWritten h s = afterCard (cardAnnounced h s) := by
    simp only [cardWritten, countFinished, cardAnnounced, Reader.completed, Reader.passed]
    cases h.stale <;> rfl
  have same : SameOutside [.notice] (s.setReader (s.reader.completed h s.slotCount)) (cardAnnounced h s) :=
    .ite (raise_same _ _ _) (.refl _ _)
  have engine : (cardAnnounced h s).engine = s.engine := same .engine (by decide)
  have reader : (cardAnnounced h s).reader = s.reader.completed h s.slotCount := same .reader (by decide)
  rw [counted, afterCard, engine, readerOff_eq, reader]
  refine if_congr Iff.rfl (congrArg (State.setReader _) ?_) rfl
  exact Reader.withoutHand (r := { s.reader.completed h s.slotCount with state := .off, again := false, finished := false })
    (passed_hand h s.slotCount s.reader)

/-- A failed write abandons the card in hand (R170). -/
theorem writeFails_eq (h : Hand) (s : State) : writeFails h s =
    let r := if h.stale = true then { s.reader with hand := none } else s.reader.passed h s.slotCount
    let u := setFault .reader .memory (s.setReader (if h.stale = true then s.reader else s.reader.passed h s.slotCount))
    if s.engine.state = .stopping then (if s.reader.finished = true then progressOccasion u else u).setReader
      { r with state := .off, again := false, finished := false }
    else u.setReader { r with state := .halted, finished := false } := by
  unfold writeFails
  rw [haltReader_eq]
  cases stale : h.stale
  · simp only [Reader.passed, stale]
    rfl
  · rfl

/-! ### The steps of a card (R167) -/

section
variable {s : State} {h : Hand}

theorem dispatchCard_of_unknown (kind : h.kind.map CardKind.itemSize = none) (s : State) :
    dispatchCard h s = complete h (refusedWhole .badKind h s) s := by
  rw [dispatchCard, Option.map_eq_none_iff.mp kind]

theorem dispatchCard_of_itemless (kind : h.kind.map CardKind.itemSize = some none) (s : State) :
    dispatchCard h s = setHand { h with phase := .acting [] } s := by
  obtain ⟨k, known, size⟩ := Option.map_eq_some_iff.mp kind
  rw [dispatchCard, known]
  simp only [size]

theorem dispatchCard_of_items {n : Nat} (kind : h.kind.map CardKind.itemSize = some (some n)) (s : State) : dispatchCard h s =
    if h.listAddr % 8 = 0 then setHand { h with phase := .listing [] (h.count * n) } s
    else complete h (refusedWhole .badField h s) s := by
  obtain ⟨k, known, size⟩ := Option.map_eq_some_iff.mp kind
  rw [dispatchCard, known]
  simp only [size]

/-- A write of TAKEN ends (R167). -/
theorem cardWriteEnds_of_taking (held : s.reader.hand = some h) (taking : h.phase = .taking) (ok : Bool) :
    cardWriteEnds ok s = if ok = true then dispatchCard h (land (takenTransfer h) s) else writeFails h s := by
  rw [cardWriteEnds, held]
  simp only [taking]

/-- A write of a completion ends (R167). -/
theorem cardWriteEnds_of_completing {x : Transfer} {xs : List Transfer} (held : s.reader.hand = some h)
    (completing : h.phase = .completing (x :: xs)) (ok : Bool) : cardWriteEnds ok s = if ok = true then
      if xs.isEmpty = true then cardWritten h (land x s) else setHand { h with phase := .completing xs } (land x s)
    else writeFails h s := by
  rw [cardWriteEnds, held]
  simp only [completing]

theorem itemListEnds_of_failed {got : List Byte} {left : Nat} (held : s.reader.hand = some h) (listing : h.phase = .listing got left) :
    itemListEnds none s = complete h (refusedWhole .link h s) s := by
  rw [itemListEnds, held]
  simp only [listing]

theorem itemListEnds_of_bytes {got : List Byte} {left : Nat} (held : s.reader.hand = some h) (listing : h.phase = .listing got left)
    (v : Vector Byte 256) : itemListEnds (some v) s = if left ≤ 256 then setHand { h with phase := .acting (got ++ v.toList.take left) } s
      else setHand { h with phase := .listing (got ++ v.toList.take left) (left - 256) } s := by
  rw [itemListEnds, held]
  simp only [listing]

end

theorem returnsAsStands_land (h : Hand) (x : Transfer) (s : State) : returnsAsStands h (land x s) = returnsAsStands h s := by
  unfold returnsAsStands
  rcases h.kind with _ | k
  · rfl
  · cases k <;> rfl

/-- Settles O56: the completion's transfers and return values by kind, and each step of a card by its phase. -/
theorem cardsGoThroughTheirSteps : Obligations.CardsGoThroughTheirSteps := by
  refine ⟨fun addr c => ?_, rfl, fun h c s => rfl, rfl, fun h s => ?_, fun s h settled held => ?_⟩
  · rw [completionTransfers, Result.cardState]
    cases c.result <;> rfl
  · intro sets sound standby
    unfold returnsAsStands
    rcases h.kind with _ | k
    · rfl
    · cases k <;> rfl
  · intro refused hold ending passed off
    have ends : ∀ ok, exec (.cardWriteEnd ok) s = .next (cardWriteEnds ok s) := fun ok => exec_of_settled settled _
    have reads : ∀ data, exec (.itemListRead data) s = .next (itemListEnds data s) := fun data => exec_of_settled settled _
    refine ⟨fun taking => ?_, fun got left listing => ⟨?_, fun v => ?_⟩, fun x y ys completing => ?_, fun x completing => ?_, fun writing => ?_⟩
    · rw [ends, cardWriteEnds_of_taking held taking, if_pos rfl]
      rcases size : h.kind.map CardKind.itemSize with _ | _ | n
      · rw [dispatchCard_of_unknown size, refusedWhole, returnsAsStands_land]
        rfl
      · rw [dispatchCard_of_itemless size]
        rfl
      · rw [dispatchCard_of_items size, refusedWhole, returnsAsStands_land]
        show _ = Host.Outcome.next (hold _ (if h.listAddr % 8 = 0 then .listing [] (h.count * n) else ending (refused .badField)))
        split <;> rfl
    · rw [reads, itemListEnds_of_failed held listing]
      rfl
    · rw [reads, itemListEnds_of_bytes held listing]
      show _ = Host.Outcome.next (hold s (if left ≤ 256 then _ else _))
      split <;> rfl
    · rw [ends, cardWriteEnds_of_completing held completing]
      rfl
    · rw [ends, cardWriteEnds_of_completing held completing, if_pos rfl]
      exact congrArg Host.Outcome.next (cardWritten_eq h (land x s))
    · have failed : cardWriteEnds false s = writeFails h s := by
        rcases writing with taking | ⟨x, xs, completing⟩
        · exact cardWriteEnds_of_taking held taking false
        · exact cardWriteEnds_of_completing held completing false
      rw [ends, failed, writeFails_eq]
      rfl

end Sys2Proof.Machine
end

section
/-! The store image, written and read back (R189). -/

namespace Sys2Proof.Machine

/-! ### The CRC -/

theorem crcBit_lt {c : Nat} (h : c < 2 ^ 32) : crcBit c < 2 ^ 32 := by
  have half : c >>> 1 < 2 ^ 32 := by
    rw [Nat.shiftRight_eq_div_pow]
    omega
  unfold crcBit
  split
  · exact Nat.xor_lt_two_pow half (by decide)
  · exact half

theorem crcBits_lt (n : Nat) {c : Nat} (h : c < 2 ^ 32) : Nat.iterate crcBit n c < 2 ^ 32 := by
  induction n generalizing c with
  | zero => exact h
  | succ n ih => exact ih (crcBit_lt h)

theorem crc32_lt (bs : List Byte) : crc32 bs < 2 ^ 32 := by
  have folded : ∀ c < 2 ^ 32, bs.foldl crcByte c < 2 ^ 32 := by
    induction bs with
    | nil => exact fun c h => h
    | cons b bs ih =>
      intro c h
      have byte : b.toNat < 2 ^ 32 := Nat.lt_trans b.isLt (by decide)
      exact ih _ (crcBits_lt 8 (Nat.xor_lt_two_pow h byte))
  exact Nat.xor_lt_two_pow (folded _ (by decide)) (by decide)

/-! ### Runs of records -/

theorem vectorField_all {α : Type} (b : List Byte) (off size n : Nat) (f : List Byte → α) (p : α → Bool) :
    (vectorField b off size n f).toList.all p = true ↔ ∀ i : Fin n, p (f ((b.drop (off + size * i.val)).take size)) = true := by
  simp [vectorField, Fin.forall_iff]

/-- A record stands at its place in a run of records of one size. -/
theorem record_flatten {xs : List (List Byte)} {size : Nat} (sizes : ∀ x ∈ xs, x.length = size) (post : List Byte) (i : Nat)
    (h : i < xs.length) : ((xs.flatten ++ post).drop (size * i)).take size = xs[i] := by
  induction xs generalizing i with
  | nil => cases h
  | cons x xs ih =>
    have first : x.length = size := sizes x List.mem_cons_self
    rw [List.flatten_cons, List.append_assoc]
    cases i with
    | zero => rw [Nat.mul_zero, List.drop_zero, ← first, List.take_left', List.getElem_cons_zero]; rfl
    | succ i =>
      have past : size * (i + 1) = x.length + size * i := by rw [first, Nat.mul_succ, Nat.add_comm]
      rw [past, List.drop_length_add_append, List.getElem_cons_succ]
      exact ih (fun y mem => sizes y (List.mem_cons_of_mem _ mem)) i (Nat.lt_of_succ_lt_succ h)

/-- A run of records written one after another is read back record by record (R189). -/
theorem vectorField_records {α β : Type} {n size off : Nat} {g : α → List Byte} (sizes : ∀ x, (g x).length = size) (v : Vector α n)
    (f : List Byte → β) {b pre post : List Byte} (bytes : b = pre ++ ((v.toList.map g).flatten ++ post)) (place : pre.length = off) :
    vectorField b off size n f = v.map fun x => f (g x) := by
  refine Vector.ext fun i h => ?_
  have record := record_flatten (xs := v.toList.map g) (size := size) (by simpa using fun x _ => sizes x) post i (by simpa using h)
  have cut : (b.drop (off + size * i)).take size = g v[i] := by
    rw [bytes, ← place, List.drop_length_add_append, record]
    simp
  simp [vectorField, cut]

theorem flatten_length_of_records {α : Type} {n size : Nat} {g : α → List Byte} (sizes : ∀ x, (g x).length = size) (v : Vector α n) :
    (v.toList.map g).flatten.length = n * size := by
  simp [List.length_flatten, Function.comp_def, sizes]

/-! ### The fields of a record -/

theorem patchInRange_iff (b : List Byte) (o : Nat) : patchInRange ((b.drop o).take 8) = true ↔
    field b o 1 = 0 ∨ (field b o 1 = 1 ∧ field b (o + 1) 1 < 40 ∧ 1 ≤ field b (o + 4) 2) := by
  simp only [patchInRange, field_take_drop b o 8 0 1 (by decide), field_take_drop b o 8 1 1 (by decide),
    field_take_drop b o 8 4 2 (by decide), Nat.add_zero, Bool.or_eq_true, Bool.and_eq_true, beq_iff_eq, decide_eq_true_eq, and_assoc]

theorem patchOfBytes_record (b : List Byte) (o : Nat) : patchOfBytes ((b.drop o).take 8) =
    if h : field b o 1 = 1 ∧ field b (o + 1) 1 < 40 then
      some { design := ⟨field b (o + 1) 1, h.2⟩, tap := field b (o + 2) 1, delay := field b (o + 4) 2, gain := field16s b (o + 6) }
    else none := by
  simp only [patchOfBytes, field16s, field_take_drop b o 8 0 1 (by decide), field_take_drop b o 8 1 1 (by decide),
    field_take_drop b o 8 2 1 (by decide), field_take_drop b o 8 4 2 (by decide), field_take_drop b o 8 6 2 (by decide), Nat.add_zero]

theorem ringGroup_record (b : List Byte) (o : Nat) : RingGroup.ofBytes ((b.drop o).take 12) =
    { rise := field b o 2, ringFloor := field b (o + 2) 4, cut := field b (o + 6) 1, recovery := field b (o + 7) 1,
      trimFloor := field b (o + 8) 2, hold := field b (o + 10) 2 } := by
  simp only [RingGroup.ofBytes, field_take_drop b o 12 0 2 (by decide), field_take_drop b o 12 2 4 (by decide),
    field_take_drop b o 12 6 1 (by decide), field_take_drop b o 12 7 1 (by decide), field_take_drop b o 12 8 2 (by decide),
    field_take_drop b o 12 10 2 (by decide), Nat.add_zero]

theorem ringGroup_inRange_iff (r : RingGroup) : r.inRange = true ↔ (257 ≤ r.rise ∧ r.rise ≤ 1023) ∧ r.ringFloor ≤ 268435455
    ∧ r.cut ≤ 255 ∧ r.trimFloor ≤ 256 ∧ (1 ≤ r.hold ∧ r.hold ≤ 60000) ∧ 1 ≤ r.recovery ∧ r.recovery ≤ 64 := by
  simp only [RingGroup.inRange, Bool.and_eq_true, decide_eq_true_eq, and_assoc]

/-! ### Records written and read back -/

/-- A patch whose values fit its record (R189). -/
def Patch.Fits (p : Patch) : Prop := p.tap < 256 ∧ 1 ≤ p.delay ∧ p.delay < 65536 ∧ isGain p.gain

/-- An occupied slot's fields in order, with their widths (R189). -/
def patchFields (p : Patch) : List (Nat × Nat) :=
  [(1, 1), (1, p.design.val), (1, p.tap), (1, 0), (2, p.delay), (2, (p.gain % 65536).toNat)]

theorem patchBytes_some (p : Patch) : patchBytes (some p) = laid (patchFields p) := by
  simp only [patchBytes, patchFields, laid, List.append_assoc, List.append_nil, leBytes_zero]
  rfl

theorem patchBytes_length (o : Option Patch) : (patchBytes o).length = 8 := by
  cases o with
  | none => rfl
  | some p => rw [patchBytes_some, laid_length]; rfl

/-- A slot is read back from its record, which lies in range (R189). -/
theorem patchOfBytes_patchBytes {o : Option Patch} (fits : ∀ p, o = some p → p.Fits) :
    patchOfBytes (patchBytes o) = o ∧ patchInRange (patchBytes o) = true := by
  cases o with
  | none => exact ⟨rfl, rfl⟩
  | some p =>
    obtain ⟨tap, delay, delay', gain⟩ := fits p rfl
    have fields : ∀ x ∈ placedFrom 0 (patchFields p), field (patchBytes (some p)) x.1 x.2.1 = x.2.2 % 256 ^ x.2.1 := fun x listed => by
      rw [patchBytes_some]
      simpa using field_laid [] listed
    simp only [patchFields, placedFrom, List.forall_mem_cons, Nat.zero_add, Nat.reduceAdd] at fields
    obtain ⟨flag, design, tapAt, -, delayAt, gainAt, -⟩ := fields
    have below := p.design.isLt
    have flag : field (patchBytes (some p)) 0 1 = 1 := flag
    have design : field (patchBytes (some p)) 1 1 = p.design.val := design.trans (Nat.mod_eq_of_lt (by omega))
    have tapAt : field (patchBytes (some p)) 2 1 = p.tap := tapAt.trans (Nat.mod_eq_of_lt (by omega))
    have delayAt : field (patchBytes (some p)) 4 2 = p.delay := delayAt.trans (Nat.mod_eq_of_lt (by omega))
    have gainAt : field16s (patchBytes (some p)) 6 = p.gain := field16s_of_field gainAt gain
    refine ⟨?_, ?_⟩
    · rw [patchOfBytes, dif_pos ⟨flag, by rw [design]; exact below⟩]
      simp only [design, tapAt, delayAt, gainAt, Fin.eta]
    · simp [patchInRange, flag, design, delayAt, below, delay]

/-- A ring group's fields in order, with their widths (R189). -/
def ringGroupFields (r : RingGroup) : List (Nat × Nat) :=
  [(2, r.rise), (4, r.ringFloor), (1, r.cut), (1, r.recovery), (2, r.trimFloor), (2, r.hold)]

theorem ringGroupBytes_eq (r : RingGroup) : ringGroupBytes r = laid (ringGroupFields r) := by
  simp only [ringGroupBytes, ringGroupFields, laid, List.append_assoc, List.append_nil]

theorem ringGroupBytes_length (r : RingGroup) : (ringGroupBytes r).length = 12 := by
  rw [ringGroupBytes_eq, laid_length]
  rfl

/-- A ring group in its ranges is read back from its record (R119, R189). -/
theorem ofBytes_ringGroupBytes {r : RingGroup} (h : r.inRange = true) : RingGroup.ofBytes (ringGroupBytes r) = r := by
  obtain ⟨⟨_, rise⟩, ringFloor, cut, trimFloor, ⟨_, hold⟩, _, recovery⟩ := (ringGroup_inRange_iff r).mp h
  have fields : ∀ x ∈ placedFrom 0 (ringGroupFields r), field (ringGroupBytes r) x.1 x.2.1 = x.2.2 % 256 ^ x.2.1 := fun x listed => by
    rw [ringGroupBytes_eq]
    simpa using field_laid [] listed
  simp only [ringGroupFields, placedFrom, List.forall_mem_cons, Nat.zero_add, Nat.reduceAdd] at fields
  obtain ⟨riseAt, floorAt, cutAt, recoveryAt, trimAt, holdAt, -⟩ := fields
  rw [RingGroup.ofBytes, riseAt, floorAt, cutAt, recoveryAt, trimAt, holdAt, Nat.mod_eq_of_lt (by omega), Nat.mod_eq_of_lt (by omega),
    Nat.mod_eq_of_lt (by omega), Nat.mod_eq_of_lt (by omega), Nat.mod_eq_of_lt (by omega), Nat.mod_eq_of_lt (by omega)]

/-! ### The image -/

theorem imageState_isSome_iff (n : Nat) : (imageState n).isSome = true ↔ n ∈ [0, 1, 3] := by
  unfold imageState
  split <;> simp_all

theorem imageState_code {st : ProtState} (h : st ≠ .opened) : imageState (st.code % 256) = some st := by
  cases st with
  | opened => exact absurd rfl h
  | _ => rfl

theorem code_of_imageState {n : Nat} {st : ProtState} (h : imageState n = some st) : n = st.code := by
  unfold imageState at h
  split at h <;> cases h <;> rfl

/-- Bytes with the right CRC and every field in its range are a good image (R189). -/
theorem imageOfBytes_of_good {b : List Byte} {st : ProtState} (state : imageState (field b 4 1) = some st)
    (crc : field b 677 4 = crc32 (b.take 677)) (slots : (vectorField b 229 8 8 patchInRange).toList.all id = true)
    (rings : (vectorField b 293 12 32 RingGroup.ofBytes).toList.all RingGroup.inRange = true) :
    imageOfBytes b = some { seq := field b 0 4, state := st, code := Vector.ofFn fun j : Fin 32 => b.getD (5 + j.val) 0
                            ceilings := vectorField b 37 2 96 leNat, slots := vectorField b 229 8 8 patchOfBytes
                            rings := vectorField b 293 12 32 RingGroup.ofBytes } := by
  simp only [imageOfBytes, state]
  exact if_pos ⟨crc, slots, rings⟩

theorem imageOfBytes_isSome_iff (b : List Byte) : (imageOfBytes b).isSome = true ↔ field b 677 4 = crc32 (b.take 677)
    ∧ (imageState (field b 4 1)).isSome = true ∧ (vectorField b 229 8 8 patchInRange).toList.all id = true
    ∧ (vectorField b 293 12 32 RingGroup.ofBytes).toList.all RingGroup.inRange = true := by
  refine ⟨fun h => ?_, fun ⟨crc, state, slots, rings⟩ => ?_⟩
  · obtain ⟨i, good⟩ := Option.isSome_iff_exists.mp h
    obtain ⟨st, state, crc, slots, rings, -⟩ := imageOfBytes_eq_some good
    exact ⟨crc, by rw [state]; rfl, slots, rings⟩
  · obtain ⟨st, state⟩ := Option.isSome_iff_exists.mp state
    rw [imageOfBytes_of_good state crc slots rings]
    rfl

/-! The parts of an image's bytes, each with what stands before it and after it. -/

section
variable (i : Image)

/-- The bytes before the ceilings (R189). -/
def imageHead : List Byte := leBytes 4 i.seq ++ leBytes 1 i.state.code ++ i.code.toList

theorem imageHead_length : (imageHead i).length = 37 := by simp [imageHead]

theorem imageBody_length : (imageBody i).length = 677 := by
  have ceilings : (i.ceilings.toList.map (leBytes 2)).flatten.length = 96 * 2 := flatten_length_of_records (leBytes_length 2) _
  have slots : (i.slots.toList.map patchBytes).flatten.length = 8 * 8 := flatten_length_of_records patchBytes_length _
  have rings : (i.rings.toList.map ringGroupBytes).flatten.length = 32 * 12 := flatten_length_of_records ringGroupBytes_length _
  have head := imageHead_length i
  unfold imageHead at head
  rw [imageBody, List.length_append, List.length_append, List.length_append, head, ceilings, slots, rings]

theorem imageBytes_length : (imageBytes i).length = 681 := by
  rw [imageBytes, List.length_append, imageBody_length, leBytes_length]

theorem field_imageBytes_seq : field (imageBytes i) 0 4 = i.seq % 256 ^ 4 := by
  simp only [imageBytes, imageBody, List.append_assoc]
  exact field_leBytes_append 4 _ _

theorem imageBytes_crc : field (imageBytes i) 677 4 = crc32 ((imageBytes i).take 677) := by
  have body : (imageBytes i).take 677 = imageBody i := List.take_left' (imageBody_length i)
  rw [body, imageBytes, field_append_right _ _ (imageBody_length i).le, imageBody_length, Nat.sub_self, field_leBytes]
  exact Nat.mod_eq_of_lt (crc32_lt _)

theorem imageBytes_code : (Vector.ofFn fun j : Fin 32 => (imageBytes i).getD (5 + j.val) 0) = i.code := by
  refine Vector.ext fun j h => ?_
  have bytes : imageBytes i = (leBytes 4 i.seq ++ leBytes 1 i.state.code) ++ (i.code.toList
      ++ ((i.ceilings.toList.map (leBytes 2)).flatten ++ ((i.slots.toList.map patchBytes).flatten
        ++ ((i.rings.toList.map ringGroupBytes).flatten ++ leBytes 4 (crc32 (imageBody i)))))) := by
    simp only [imageBytes, imageBody, List.append_assoc]
  rw [Vector.getElem_ofFn, bytes, List.getD_append_right _ _ _ _ (by simp), List.getD_append _ _ _ _ (by simpa using h)]
  simp [h]

theorem imageBytes_ceilings (small : ∀ e : Fin 96, i.ceilings[e] < 65536) : vectorField (imageBytes i) 37 2 96 leNat = i.ceilings := by
  have bytes : imageBytes i = imageHead i ++ ((i.ceilings.toList.map (leBytes 2)).flatten ++ ((i.slots.toList.map patchBytes).flatten
      ++ ((i.rings.toList.map ringGroupBytes).flatten ++ leBytes 4 (crc32 (imageBody i))))) := by
    simp only [imageBytes, imageBody, imageHead, List.append_assoc]
  rw [vectorField_records (leBytes_length 2) i.ceilings leNat bytes (imageHead_length i)]
  refine Vector.ext fun e h => ?_
  rw [Vector.getElem_map, leNat_leBytes]
  exact Nat.mod_eq_of_lt (small ⟨e, h⟩)

theorem imageBytes_slots {β : Type} (f : List Byte → β) : vectorField (imageBytes i) 229 8 8 f = i.slots.map fun o => f (patchBytes o) := by
  have place : (imageHead i ++ (i.ceilings.toList.map (leBytes 2)).flatten).length = 229 := by
    rw [List.length_append, imageHead_length, flatten_length_of_records (leBytes_length 2)]
  refine vectorField_records patchBytes_length i.slots f (post := (i.rings.toList.map ringGroupBytes).flatten ++ leBytes 4 (crc32 (imageBody i)))
    ?_ place
  simp only [imageBytes, imageBody, imageHead, List.append_assoc]

theorem imageBytes_rings {β : Type} (f : List Byte → β) :
    vectorField (imageBytes i) 293 12 32 f = i.rings.map fun r => f (ringGroupBytes r) := by
  have place : (imageHead i ++ (i.ceilings.toList.map (leBytes 2)).flatten ++ (i.slots.toList.map patchBytes).flatten).length = 293 := by
    rw [List.length_append, List.length_append, imageHead_length, flatten_length_of_records (leBytes_length 2),
      flatten_length_of_records patchBytes_length]
  refine vectorField_records ringGroupBytes_length i.rings f (post := leBytes 4 (crc32 (imageBody i))) ?_ place
  simp only [imageBytes, imageBody, imageHead, List.append_assoc]

end

/-- An image in its ranges is read back from its bytes (R189). -/
theorem imageOfBytes_imageBytes {i : Image} (seq : i.seq < 4294967296) (closed : i.state ≠ .opened)
    (ceilings : ∀ e : Fin 96, i.ceilings[e] < 65536) (slots : ∀ k : Fin 8, ∀ p, i.slots[k] = some p → p.Fits)
    (rings : ∀ p : Fin 32, i.rings[p].inRange = true) : imageOfBytes (imageBytes i) = some i := by
  have patches : i.slots.map (fun o => patchOfBytes (patchBytes o)) = i.slots := Vector.ext fun k h =>
    (Vector.getElem_map _ h).trans (patchOfBytes_patchBytes (slots ⟨k, h⟩)).1
  have groups : i.rings.map (fun r => RingGroup.ofBytes (ringGroupBytes r)) = i.rings := Vector.ext fun p h =>
    (Vector.getElem_map _ h).trans (ofBytes_ringGroupBytes (rings ⟨p, h⟩))
  have state : imageState (field (imageBytes i) 4 1) = some i.state := by rw [field_imageBytes_state, imageState_code closed]
  have inRange : (vectorField (imageBytes i) 229 8 8 patchInRange).toList.all id = true := by
    rw [imageBytes_slots, List.all_eq_true]
    intro x mem
    obtain ⟨k, h, rfl⟩ := List.mem_iff_getElem.mp mem
    have within : k < 8 := by simpa using h
    simpa using (patchOfBytes_patchBytes (slots ⟨k, within⟩)).2
  have ranges : (vectorField (imageBytes i) 293 12 32 RingGroup.ofBytes).toList.all RingGroup.inRange = true := by
    rw [imageBytes_rings, groups, List.all_eq_true]
    intro x mem
    obtain ⟨p, h, rfl⟩ := List.mem_iff_getElem.mp mem
    have within : p < 32 := by simpa using h
    simpa using rings ⟨p, within⟩
  rw [imageOfBytes_of_good state (imageBytes_crc i) inRange ranges, field_imageBytes_seq, Nat.mod_eq_of_lt (show i.seq < 256 ^ 4 from seq), imageBytes_code,
    imageBytes_ceilings i ceilings, imageBytes_slots, imageBytes_rings, patches, groups]

/-! ### The fields of a good image -/

section
variable (b : List Byte)

/-- The places of slot k's fields in an image (R189). -/
theorem slot_places (k : Nat) : 229 + 8 * k + 1 = 230 + 8 * k ∧ 229 + 8 * k + 2 = 231 + 8 * k ∧ 229 + 8 * k + 4 = 233 + 8 * k
    ∧ 229 + 8 * k + 6 = 235 + 8 * k := by omega

/-- The places of ring group p's fields in an image (R189). -/
theorem ring_places (p : Nat) : 293 + 12 * p + 2 = 295 + 12 * p ∧ 293 + 12 * p + 6 = 299 + 12 * p ∧ 293 + 12 * p + 7 = 300 + 12 * p
    ∧ 293 + 12 * p + 8 = 301 + 12 * p ∧ 293 + 12 * p + 10 = 303 + 12 * p := by omega

theorem slots_inRange_iff : (vectorField b 229 8 8 patchInRange).toList.all id = true ↔ ∀ k : Fin 8, field b (229 + 8 * k.val) 1 = 0
    ∨ (field b (229 + 8 * k.val) 1 = 1 ∧ field b (230 + 8 * k.val) 1 < 40 ∧ 1 ≤ field b (233 + 8 * k.val) 2) := by
  refine (vectorField_all b 229 8 8 patchInRange id).trans (forall_congr' fun k => ?_)
  obtain ⟨design, -, delay, -⟩ := slot_places k.val
  rw [id, patchInRange_iff, design, delay]

theorem ring_at (p : Fin 32) : (vectorField b 293 12 32 RingGroup.ofBytes)[p] =
    { rise := field b (293 + 12 * p.val) 2, ringFloor := field b (295 + 12 * p.val) 4, cut := field b (299 + 12 * p.val) 1,
      recovery := field b (300 + 12 * p.val) 1, trimFloor := field b (301 + 12 * p.val) 2, hold := field b (303 + 12 * p.val) 2 } := by
  obtain ⟨floor, cut, recovery, trim, hold⟩ := ring_places p.val
  rw [vectorField_getElem, ringGroup_record, floor, cut, recovery, trim, hold]

theorem rings_inRange_iff : (vectorField b 293 12 32 RingGroup.ofBytes).toList.all RingGroup.inRange = true ↔ ∀ p : Fin 32,
    (257 ≤ field b (293 + 12 * p.val) 2 ∧ field b (293 + 12 * p.val) 2 ≤ 1023) ∧ field b (295 + 12 * p.val) 4 ≤ 268435455
      ∧ (1 ≤ field b (300 + 12 * p.val) 1 ∧ field b (300 + 12 * p.val) 1 ≤ 64) ∧ field b (301 + 12 * p.val) 2 ≤ 256
      ∧ (1 ≤ field b (303 + 12 * p.val) 2 ∧ field b (303 + 12 * p.val) 2 ≤ 60000) := by
  refine (vectorField_all b 293 12 32 RingGroup.ofBytes RingGroup.inRange).trans (forall_congr' fun p => ?_)
  have byte : field b (299 + 12 * p.val) 1 < 256 := field_lt b _ 1
  rw [← vectorField_getElem b 293 12 32 RingGroup.ofBytes, ring_at, ringGroup_inRange_iff]
  dsimp only
  omega

/-- A slot in range is empty exactly where its flag is 0, and holds the record's fields where it is not (R189). -/
theorem slot_at (k : Fin 8) (h : field b (229 + 8 * k.val) 1 = 0
    ∨ (field b (229 + 8 * k.val) 1 = 1 ∧ field b (230 + 8 * k.val) 1 < 40 ∧ 1 ≤ field b (233 + 8 * k.val) 2)) :
    ((vectorField b 229 8 8 patchOfBytes)[k] = none ↔ field b (229 + 8 * k.val) 1 = 0)
      ∧ ∀ p, (vectorField b 229 8 8 patchOfBytes)[k] = some p → p.design.val = field b (230 + 8 * k.val) 1
        ∧ p.tap = field b (231 + 8 * k.val) 1 ∧ p.delay = field b (233 + 8 * k.val) 2 ∧ p.gain = field16s b (235 + 8 * k.val) := by
  obtain ⟨design, tap, delay, gain⟩ := slot_places k.val
  rw [vectorField_getElem, patchOfBytes_record]
  simp only [design, tap, delay, gain]
  rcases h with empty | ⟨flag, below, -⟩
  · rw [dif_neg (by omega)]
    exact ⟨iff_of_true rfl empty, fun p held => absurd held (by simp)⟩
  · rw [dif_pos ⟨flag, below⟩]
    refine ⟨iff_of_false (by simp) (by omega), fun p held => ?_⟩
    cases held
    exact ⟨rfl, rfl, rfl, rfl⟩

end

/-- Settles O20: the round trip part by part, the CRC's definition, and a good image's fields by their places. -/
theorem storeImageReadsBack : Obligations.StoreImageReadsBack := by
  refine ⟨fun i seq closed ceilings slots rings => ⟨imageBytes_length i, imageOfBytes_imageBytes seq closed ceilings slots rings⟩,
    fun bs => rfl, fun b => ⟨?_, fun i good => ?_⟩⟩
  · exact (imageOfBytes_isSome_iff b).trans (and_congr Iff.rfl (and_congr (imageState_isSome_iff _)
      (and_congr (slots_inRange_iff b) (rings_inRange_iff b))))
  · obtain ⟨st, state, -, slots, -, rfl⟩ := imageOfBytes_eq_some good
    refine ⟨rfl, (code_of_imageState state).trans ?_, fun j => ?_, fun e => ?_, fun k => slot_at b k ((slots_inRange_iff b).mp slots k), ring_at b⟩
    · cases st <;> rfl
    · exact Vector.getElem_ofFn _
    · exact vectorField_getElem b 37 2 96 leNat e

end Sys2Proof.Machine
end
